-- ==== Sys2Proof/Word.lean ====
section
/-! DEFINITION. The word types of the machine (spec/00_scope.md R6, R7; spec/10_state.md R20, R24, R67). -/

namespace Sys2Proof

/-- A doubleword: the width of the general registers, HI, LO and PC (spec/10_state.md R20, R24). -/
abbrev Word := BitVec 64

/-- A word of 32 bits: an instruction word, a 32-bit register. -/
abbrev Word32 := BitVec 32

/-- The smallest addressable unit (spec/10_state.md R67). -/
abbrev Byte := BitVec 8

/-- A physical address (spec/00_scope.md R6, PA_BITS = 32). -/
abbrev PAddr := BitVec 32

/-- A register number: one of the 32 general, floating-point or Cop0 registers. -/
abbrev Reg := BitVec 5

end Sys2Proof
end

