-- ==== Sys2Proof/Config.lean ====
section
/-! DEFINITION. What an implementation fixes and the free values (spec/00_scope.md R6; spec/93_implementation_defined.md).
An opaque constant has no body: nothing can be proved of its value, so a claim holds for every choice.
The fixed parameters of R6 (XLEN, NGPR, NFPR, PA_BITS, TLB_ENTRIES, ASID_BITS) are the widths of the types of State. -/

namespace Sys2Proof.Config

/-- The stream of free values: draw number n (spec/00_scope.md R8, `draw`). DESIGN CHOICE (log 8), safe: no value of it
can be proved. -/
opaque free : Nat → BitVec 64

/-- The unspecified contents of a memory byte after cold reset number `epoch`, drawn once at reset
(spec/70_reset_and_hazards.md R625; U28). DESIGN CHOICE (log 6), safe. -/
opaque initialByte : (epoch addr : Nat) → BitVec 8

/-- What a floating-point cell written under the other setting of Status.FR reads as in one tick, U14: any value
(spec/10_state.md R33; spec/93_implementation_defined.md section 1). DESIGN CHOICE (log 39), safe. -/
opaque staleCell : (tick cell : Nat) → BitVec 64

/-- Imp and Rev of PRId, the open parameter PRID (spec/10_state.md R54). Log 10, safe. -/
opaque pridValue : BitVec 16

/-- PRId: bits 31:16 are zero (spec/10_state.md R54). -/
def prid : Word32 := pridValue.setWidth 32

/-- Imp and Rev of FCR0, the open parameter FCR0 (spec/10_state.md R35). Log 10, safe. -/
opaque fcr0Value : BitVec 16

/-- FCR0: bits 31:16 are zero (spec/10_state.md R35). -/
def fcr0 : Word32 := fcr0Value.setWidth 32

/-- The bits of CONFIG_RESET that no rule fixes: EC, CU and K0 (spec/10_state.md R55, R75). Log 10, safe. -/
opaque configPins : BitVec 32

/-- CONFIG_RESET: EP = 0, BE = 1 and the two constant fields of R55 (spec/10_state.md R55, R75). -/
def configReset : Word32 := (configPins &&& 0x7000000F#32) ||| 0x0006E460#32

/-- PIF_EEPROM_ID, the three identification bytes of the EEPROM channel (spec/61_platform_devices.md R582). Log 10, safe. -/
opaque pifEepromId : BitVec 24

/-- COUNT_QUALIFIES: does this tick increment Count (spec/60_exceptions.md R500). Log 11, safe. -/
opaque countQualifies : (tick : Nat) → Bool

/-- TIMER_ON_IP7, true for this hardware (spec/00_scope.md R6). -/
def timerOnIp7 : Bool := true

/-- DivCorner.DIV_by0: the pair (HI, LO) of DIV by zero, a function of the dividend (spec/42_muldiv.md R291). Log 13, safe. -/
opaque divBy0 : Word → Word × Word
/-- DivCorner.DIVU_by0 (spec/42_muldiv.md R291). Log 13, safe. -/
opaque divuBy0 : Word → Word × Word
/-- DivCorner.DDIV_by0 (spec/42_muldiv.md R291). Log 13, safe. -/
opaque ddivBy0 : Word → Word × Word
/-- DivCorner.DDIVU_by0 (spec/42_muldiv.md R291). Log 13, safe. -/
opaque ddivuBy0 : Word → Word × Word
/-- DivCorner.DIV_ovf: the pair (HI, LO) of the most negative word divided by -1 (spec/42_muldiv.md R291). Log 13, safe. -/
opaque divOvf : Word × Word
/-- DivCorner.DDIV_ovf (spec/42_muldiv.md R291). Log 13, safe. -/
opaque ddivOvf : Word × Word

end Sys2Proof.Config
end

