-- ==== Sys2Proof/Machine/State.lean ====
section
/-! DEFINITION. The state of the machine as plain data, why a step can stop, and the state after reset
(spec/10_state.md; spec/61_platform_devices.md; spec/70_reset_and_hazards.md R620, R625).
A register whose reserved bits read zero and ignore writes is held as its fields; a register that
software writes whole under a mask is held as one bit vector. -/

namespace Sys2Proof.Machine

/-- Why a step has no meaning (spec/93_implementation_defined.md section 2). Every refusal is safe: it ends the run. -/
inductive Refusal where
  /-- An instruction whose arm of exec has no meaning yet. Raised by exec. Safe. -/
  | notModelled (mnemonic : String)
  /-- U1: a branch, a jump or ERET in a delay slot (spec/10_state.md R28; spec/43_branch_jump.md R332). Safe. -/
  | branchInDelaySlot
  /-- U2: JALR with rd = rs (spec/43_branch_jump.md R332). Safe. -/
  | jalrSameRegister
  /-- U3: a linking branch with rs = 31 (spec/43_branch_jump.md R332). Safe. -/
  | linkingBranchOnLink
  /-- U4: a should-be-zero bit is 1 (spec/30_encoding.md R182). Raised for the fetched word. Safe. -/
  | shouldBeZero
  /-- U5: a word operand that is not a sign-extended 32-bit value (spec/41_alu.md R240). Safe. -/
  | notSignExtended
  /-- U7, U8: an odd floating-point register with Status.FR = 0 (spec/46_fpu.md R391). Safe. -/
  | oddFloatRegister
  /-- U10: Status.KSU = 3 with EXL = ERL = 0 (spec/60_exceptions.md R460). Safe. -/
  | reservedMode
  /-- U11: Config.BE written 0 (spec/20_memory.md R101). Raised by MTC0. Safe. -/
  | littleEndian
  /-- U11: a fetch, load or store in user mode with Status.RE = 1 (spec/20_memory.md R101). Safe. -/
  | reverseEndian
  /-- U12: TLBWR with Wired above 31 (spec/45_cop0.md R372). Safe. -/
  | wiredOutOfRange
  /-- U20: TLBR or TLBWI with Index above 31 (spec/45_cop0.md R370, R371). Safe. -/
  | indexOutOfRange
  /-- U21: a TLB entry with an illegal Mask is used for translation (spec/10_state.md R45). Safe. -/
  | illegalPageMask
  /-- U22: more than one TLB entry matches (spec/20_memory.md R119; spec/45_cop0.md R373). Safe. -/
  | multipleTlbMatch
  /-- U24: DMTC0 to a 32-bit register (spec/45_cop0.md R369). Safe. -/
  | dmtc0OfWordRegister
  /-- U25: a watched access while EXL = 1 or ERL = 1 (spec/60_exceptions.md R488). Safe. -/
  | watchPostponed
  /-- U36: a DMA whose addresses or length are not aligned as hardware requires (spec/61_platform_devices.md R551,
  R556, R563). Safe. -/
  | dmaUnaligned
  /-- U38: a PIF command byte with bit 1, 2, 4, 5 or 7 set (spec/61_platform_devices.md R576, R580). Safe. -/
  | pifCommand
  /-- A transfer that starts itself again and so never ends: the store that started it never retires and the step has
  no successor (spec/61_platform_devices.md R533; spec/93_implementation_defined.md section 1; log 28). Safe. -/
  | dmaNeverEnds
deriving DecidableEq, Repr

/-- An exception, with what its entry records (spec/60_exceptions.md R450).
`store` tells a store from a load or fetch; `xtlb` tells 64-bit addressing. -/
inductive Exc where
  | interrupt
  | tlbModified (va : Word)
  | tlbRefill (store xtlb : Bool) (va : Word)
  | tlbInvalid (store : Bool) (va : Word)
  | addressError (store : Bool) (va : Word)
  | systemCall
  | breakpoint
  | reservedInstruction
  | coprocessorUnusable (unit : BitVec 2)
  | integerOverflow
  | trap
  | floatingPoint
  | watch
deriving DecidableEq, Repr

/-- One page of a TLB entry, and the page half of EntryLo (spec/10_state.md R43, R65). -/
structure TlbPage where
  pfn : BitVec 24
  c   : BitVec 3
  d   : Bool
  v   : Bool
deriving DecidableEq, Repr

/-- EntryLo0 or EntryLo1; bits 63:30 have no storage (spec/10_state.md R43). -/
structure EntryLo where
  page : TlbPage
  g    : Bool
deriving DecidableEq, Repr

/-- EntryHi; bits 61:40 and 12:8 have no storage (spec/10_state.md R49). -/
structure EntryHi where
  r    : BitVec 2
  vpn2 : BitVec 27
  asid : BitVec 8
deriving DecidableEq, Repr

/-- One TLB entry (spec/10_state.md R65). -/
structure TlbEntry where
  mask  : BitVec 12
  r     : BitVec 2
  vpn2  : BitVec 27
  asid  : BitVec 8
  g     : Bool
  page0 : TlbPage
  page1 : TlbPage
deriving DecidableEq, Repr

/-- Index: P and the entry number (spec/10_state.md R41). -/
structure IndexReg where
  p     : Bool
  index : BitVec 6
deriving DecidableEq, Repr

/-- Context (spec/10_state.md R44). -/
structure Context where
  pteBase : BitVec 41
  badVpn2 : BitVec 19
deriving DecidableEq, Repr

/-- XContext (spec/10_state.md R58). -/
structure XContext where
  pteBase : BitVec 31
  r       : BitVec 2
  badVpn2 : BitVec 27
deriving DecidableEq, Repr

/-- Cause; every other bit reads zero (spec/10_state.md R51). -/
structure Cause where
  bd      : Bool
  ce      : BitVec 2
  ip      : BitVec 8
  excCode : BitVec 5
deriving DecidableEq, Repr

/-- The coprocessor 0 registers (spec/10_state.md R40 to R61). Cache Error and TagHi read zero and have no storage. -/
structure Cp0 where
  index       : IndexReg
  random      : BitVec 6
  entryLo0    : EntryLo
  entryLo1    : EntryLo
  context     : Context
  pageMask    : BitVec 12
  wired       : BitVec 6
  badVAddr    : Word
  count       : Word32
  entryHi     : EntryHi
  compare     : Word32
  status      : Word32
  cause       : Cause
  epc         : Word
  prid        : Word32
  config      : Word32
  llAddr      : Word32
  watchLo     : Word32
  watchHi     : BitVec 4
  xcontext    : XContext
  parityError : BitVec 8
  tagLo       : Word32
  errorEpc    : Word
deriving DecidableEq, Repr

/-- The flags SP_STATUS reads (spec/61_platform_devices.md R564). -/
structure SpStatus where
  halt      : Bool
  broke     : Bool
  sstep     : Bool
  intrBreak : Bool
  sig       : BitVec 8
deriving DecidableEq, Repr

/-- A per-controller latch of the PIF (spec/61_platform_devices.md R590). -/
structure Latch where
  buttons : BitVec 16
  x       : BitVec 8
  y       : BitVec 8
deriving DecidableEq, Repr

/-- A move of the environment, made between ticks (spec/00_scope.md R11; spec/61_platform_devices.md R568, R590). -/
inductive EnvMove where
  /-- drive the five interrupt pins (spec/60_exceptions.md R470) -/
  | pins (level : BitVec 5)
  /-- assert ColdReset (spec/70_reset_and_hazards.md R620) -/
  | coldReset
  /-- assert SoftReset (spec/70_reset_and_hazards.md R622) -/
  | softReset
  /-- assert NMI (spec/70_reset_and_hazards.md R622) -/
  | nmi
  /-- push controller input (spec/61_platform_devices.md R590) -/
  | push (slot : BitVec 2) (buttons : BitVec 16) (up down left right : Bool)
  /-- the running signal processor writes a byte of SP memory or RDRAM (spec/61_platform_devices.md R568) -/
  | spByte (paddr : PAddr) (value : Byte)
  /-- the running signal processor moves SP_PC -/
  | spPc (value : Word32)
  /-- the running signal processor changes the SP_STATUS flags -/
  | spFlags (value : SpStatus)
  /-- the running signal processor changes the semaphore -/
  | spSemaphore (value : Bool)
  /-- the running signal processor changes one of the four SP DMA registers -/
  | spDma (reg : BitVec 2) (value : Word32)
deriving DecidableEq, Repr

/-- Memory: bytes by physical address, addresses strictly rising (spec/10_state.md R68). An unlisted address
has no entry; what it reads as is said once, by `memByte` of Machine/Memory.lean. -/
abbrev Memory := List Host.Cell

/-- The state of the machine. -/
structure State where
  -- core registers (spec/10_state.md R20, R24, R25, R30, R34 to R38)
  gpr    : Vector Word 32
  hi     : Word
  lo     : Word
  pc     : Word
  delay  : Option Word
  fgr    : Vector Word 32
  -- the model's own: Status.FR at the last write of each half of a cell (spec/10_state.md R33; log 39)
  fgrLowFr  : Vector Bool 32
  fgrHighFr : Vector Bool 32
  fcr0   : Word32
  fcr31  : Word32
  llbit  : Bool
  -- coprocessor 0 and the TLB (spec/10_state.md R40, R65)
  cp0    : Cp0
  tlb    : Vector TlbEntry 32
  -- hidden state and inputs (spec/10_state.md R66)
  timerCond    : Bool
  intPins      : BitVec 5
  coldResetPin : Bool
  softResetPin : Bool
  nmiPin       : Bool
  -- memories and devices (spec/10_state.md R68; spec/61_platform_devices.md)
  mem       : Memory
  rdramSize : Nat
  viRegs    : Vector Word32 14
  piRegs    : Vector Word32 13
  siRegs    : Vector Word32 7
  spRegs    : Vector Word32 8
  spPcRegs  : Vector Word32 2
  spStatus  : SpStatus
  semaphore : Bool
  latch     : Vector Latch 4
  -- the model's own: the schedule of the environment and the positions in the free values (log 6, 8, 11, 15)
  inputs : List (List EnvMove)
  draws  : Nat
  ticks  : Nat
  epoch  : Nat
deriving DecidableEq, Repr

/-- Why the machine stops with a fault. -/
inductive Fault where
  /-- An access of the CPU to a physical address no device claims, or to RDRAM at or above RDRAM_SIZE
  (spec/20_memory.md R143, R151). Raised by the bus. Safe: the machine stops and gives no value. -/
  | busFault (paddr : PAddr)
  /-- The same inside a DMA copy, with the number of bytes already copied and the state the copy leaves: those bytes
  of the destination hold the new data, the rest are unchanged (spec/61_platform_devices.md R543).
  Raised by the copy. Safe: the machine stops. -/
  | dmaBusFault (paddr : PAddr) (copied : Nat) (left : State)
deriving DecidableEq, Repr

/-- How an instruction ends before it retires: an exception to enter, a fault or a refusal. -/
inductive Stop where
  | exc (e : Exc)
  | fault (f : Fault)
  | refused (r : Refusal)
deriving DecidableEq, Repr

/-- What an instruction or a step answers. -/
abbrev Result := Host.Outcome State Fault Refusal

/-- A page that maps nothing. -/
def TlbPage.invalid : TlbPage := { pfn := 0, c := 0, d := false, v := false }

/-- The TLB entry numbered i after reset: region 2 is no mapped segment, so it matches no address
(DESIGN CHOICE, log 3; the form of spec/70_reset_and_hazards.md R632 step 5). -/
def TlbEntry.atReset (i : Nat) : TlbEntry :=
  { mask := 0, r := 2, vpn2 := BitVec.ofNat 27 i, asid := 0, g := false,
    page0 := TlbPage.invalid, page1 := TlbPage.invalid }

/-- The coprocessor 0 registers after a cold reset (spec/10_state.md R75; the rest DESIGN CHOICE, log 2, log 10). -/
def Cp0.reset : Cp0 :=
  { index := { p := false, index := 0 }
    random := 31
    entryLo0 := { page := TlbPage.invalid, g := false }
    entryLo1 := { page := TlbPage.invalid, g := false }
    context := { pteBase := 0, badVpn2 := 0 }
    pageMask := 0
    wired := 0
    badVAddr := 0
    count := 0
    entryHi := { r := 0, vpn2 := 0, asid := 0 }
    compare := 0
    status := 0x00400004
    cause := { bd := false, ce := 0, ip := 0, excCode := 0 }
    epc := 0
    prid := Config.prid
    config := Config.configReset
    llAddr := 0
    watchLo := 0
    watchHi := 0
    xcontext := { pteBase := 0, r := 0, badVpn2 := 0 }
    parityError := 0
    tagLo := 0
    errorEpc := 0 }

/-- The empty latch (spec/61_platform_devices.md R590). -/
def Latch.empty : Latch := { buttons := 0, x := 0, y := 0 }

/-- SP_STATUS after reset: halted, every other flag 0 (spec/61_platform_devices.md R535). -/
def SpStatus.reset : SpStatus := { halt := true, broke := false, sstep := false, intrBreak := false, sig := 0 }

/-- The machine right after reset (spec/10_state.md R75; spec/61_platform_devices.md R535; spec/70_reset_and_hazards.md
R620, R625). Values the spec leaves unspecified are DESIGN CHOICES of log 1 to 5. -/
def State.reset : State :=
  { gpr := Vector.replicate 32 0
    hi := 0
    lo := 0
    pc := 0xFFFFFFFFBFC00000
    delay := none
    fgr := Vector.replicate 32 0
    fgrLowFr := Vector.replicate 32 false
    fgrHighFr := Vector.replicate 32 false
    fcr0 := Config.fcr0
    fcr31 := 0
    llbit := false
    cp0 := Cp0.reset
    tlb := Vector.ofFn fun i => TlbEntry.atReset i.val
    timerCond := false
    intPins := 0
    coldResetPin := false
    softResetPin := false
    nmiPin := false
    mem := []
    rdramSize := 0x00400000
    viRegs := Vector.replicate 14 0
    piRegs := Vector.replicate 13 0
    siRegs := Vector.replicate 7 0
    spRegs := Vector.replicate 8 0
    spPcRegs := Vector.replicate 2 0
    spStatus := SpStatus.reset
    semaphore := false
    latch := Vector.replicate 4 Latch.empty
    inputs := []
    draws := 0
    ticks := 0
    epoch := 0 }

end Sys2Proof.Machine
end

