-- ==== Sys2Proof/Machine/Memory.lean ====
section
/-! DEFINITION. Memory as a list of cells in canonical form: addresses strictly rising, and an unlisted address holds
no entry at this level, so equal memories are equal lists. `memByte` says once what an unlisted byte reads as. -/

namespace Sys2Proof.Machine

/-- Every address of the list is above `bound`, and they rise strictly. -/
def risingFrom : Option Nat → Memory → Bool
  | _, [] => true
  | none, (a, _) :: rest => risingFrom (some a) rest
  | some b, (a, _) :: rest => decide (b < a) && risingFrom (some a) rest

/-- The canonical form of memory: addresses strictly rising. -/
def Memory.wf (m : Memory) : Bool := risingFrom none m

/-- The byte listed at an address, if any. -/
def Memory.lookup (a : Nat) : Memory → Option Byte
  | [] => none
  | (k, b) :: rest => if k = a then some b else if a < k then none else Memory.lookup a rest

/-- The memory with one byte written, in canonical form again. -/
def Memory.write (a : Nat) (b : Byte) : Memory → Memory
  | [] => [(a, b)]
  | (k, c) :: rest =>
    if a < k then (a, b) :: (k, c) :: rest
    else if a = k then (a, b) :: rest
    else (k, c) :: Memory.write a b rest

/-- The memory without the entries of an address range: their bytes become unspecified again
(spec/70_reset_and_hazards.md R625). -/
def Memory.forget (first last : Nat) (m : Memory) : Memory :=
  m.filter fun c => decide (c.1 < first) || decide (last < c.1)

/-- The address lies in one of the two launch images, CART_ROM or PIF_ROM (spec/20_memory.md R150). -/
def isImage (a : Nat) : Bool := decide (0x10000000 ≤ a) && decide (a < 0x1FC007C0)

/-- The byte an address reads as. An unlisted byte reads as the free value drawn at the last cold reset; a byte of an
image keeps the first one, for no reset changes the images (spec/70_reset_and_hazards.md R625; log 6, log 7). -/
def memByte (a : Nat) (s : State) : Byte :=
  match Memory.lookup a s.mem with
  | some b => b
  | none => Config.initialByte (if isImage a then 0 else s.epoch) a

/-- One byte of memory written. -/
def setMemByte (a : Nat) (b : Byte) (s : State) : State := { s with mem := Memory.write a b s.mem }

/-- Bytes written at rising addresses from `a`. -/
def setMemBytes (a : Nat) (bytes : List Byte) (s : State) : State :=
  match bytes with
  | [] => s
  | b :: rest => setMemBytes (a + 1) rest (setMemByte a b s)

end Sys2Proof.Machine
end

