-- ==== Sys2Proof/Machine/Flags.lean ====
section
/-! DEFINITION. Conditions and flags: integer overflow, the modes and permissions that Status decides, and the fields
of FCR31 (spec/41_alu.md R280; spec/60_exceptions.md R460 to R463; spec/10_state.md R36, R50, R63; spec/46_fpu.md R394).
Each is a pure function of the register value (spec/10_state.md R63). -/

namespace Sys2Proof.Machine

/-- The exact signed result does not fit `width` bits (spec/41_alu.md R280). -/
def overflows (width : Nat) (x : Int) : Bool :=
  decide (x < -(2 ^ (width - 1))) || decide (2 ^ (width - 1) ≤ x)

/-- One bit of Status (spec/10_state.md R50). -/
def statusIe (st : Word32) : Bool := st.getLsbD 0
/-- Status.EXL (spec/10_state.md R50) -/
def statusExl (st : Word32) : Bool := st.getLsbD 1
/-- Status.ERL (spec/10_state.md R50) -/
def statusErl (st : Word32) : Bool := st.getLsbD 2
/-- Status.KSU (spec/10_state.md R50) -/
def statusKsu (st : Word32) : BitVec 2 := st.extractLsb' 3 2
/-- Status.UX (spec/10_state.md R50) -/
def statusUx (st : Word32) : Bool := st.getLsbD 5
/-- Status.SX (spec/10_state.md R50) -/
def statusSx (st : Word32) : Bool := st.getLsbD 6
/-- Status.KX (spec/10_state.md R50) -/
def statusKx (st : Word32) : Bool := st.getLsbD 7
/-- Status.IM7..IM0 (spec/10_state.md R50) -/
def statusIm (st : Word32) : BitVec 8 := st.extractLsb' 8 8
/-- Status.BEV (spec/10_state.md R50) -/
def statusBev (st : Word32) : Bool := st.getLsbD 22
/-- Status.RE (spec/10_state.md R50) -/
def statusRe (st : Word32) : Bool := st.getLsbD 25
/-- Status.FR (spec/10_state.md R50) -/
def statusFr (st : Word32) : Bool := st.getLsbD 26
/-- Status.CU0 (spec/10_state.md R50) -/
def statusCu0 (st : Word32) : Bool := st.getLsbD 28
/-- Status.CU1 (spec/10_state.md R50) -/
def statusCu1 (st : Word32) : Bool := st.getLsbD 29
/-- Status.CU2 (spec/10_state.md R50) -/
def statusCu2 (st : Word32) : Bool := st.getLsbD 30

/-- The bits of Status a program can write; the others read zero (spec/10_state.md R50). -/
def statusMask : Word32 := 0xFF57FFFF

/-- The three privilege modes (spec/60_exceptions.md R460). -/
inductive Mode where
  | kernel
  | supervisor
  | user
deriving DecidableEq, Repr

/-- The mode Status gives, none for the reserved mode (spec/60_exceptions.md R460). -/
def modeOf (st : Word32) : Option Mode :=
  if statusExl st || statusErl st then some .kernel
  else if statusKsu st = 0 then some .kernel
  else if statusKsu st = 1 then some .supervisor
  else if statusKsu st = 2 then some .user
  else none

/-- Is64bitOps (spec/60_exceptions.md R463). -/
def ops64 (st : Word32) : Mode → Bool
  | .kernel => true
  | .supervisor => statusSx st
  | .user => statusUx st

/-- 64-bit addressing (spec/20_memory.md R113). -/
def wideAddressing (st : Word32) : Mode → Bool
  | .kernel => statusKx st
  | .supervisor => statusSx st
  | .user => statusUx st

/-- Coprocessor 0 is usable (spec/30_encoding.md R184; spec/45_cop0.md R365). -/
def cop0Usable (st : Word32) (m : Mode) : Bool := (m == .kernel) || statusCu0 st

/-- The writable bits of FCR31 (spec/10_state.md R36). -/
def fcr31Mask : Word32 := 0x0183FFFF
/-- FCR31.RM (spec/10_state.md R36) -/
def fcrRm (f : Word32) : BitVec 2 := f.extractLsb' 0 2
/-- FCR31.Enable, V Z O U I (spec/10_state.md R36) -/
def fcrEnable (f : Word32) : BitVec 5 := f.extractLsb' 7 5
/-- FCR31.Cause, E V Z O U I (spec/10_state.md R36) -/
def fcrCause (f : Word32) : BitVec 6 := f.extractLsb' 12 6
/-- FCR31.C (spec/10_state.md R36) -/
def fcrCond (f : Word32) : Bool := f.getLsbD 23
/-- FCR31.FS (spec/10_state.md R36) -/
def fcrFs (f : Word32) : Bool := f.getLsbD 24

/-- All six Cause bits replaced (spec/46_fpu.md R394). -/
def fcrSetCause (f : Word32) (cause : BitVec 6) : Word32 :=
  (f &&& ~~~0x0003F000#32) ||| (cause.setWidth 32 <<< 12)

/-- The sticky flags of the causes V Z O U I added (spec/46_fpu.md R394). -/
def fcrAddFlags (f : Word32) (cause : BitVec 6) : Word32 :=
  f ||| ((cause.extractLsb' 0 5).setWidth 32 <<< 2)

/-- The condition bit replaced (spec/47_fpu_arith.md R435). -/
def fcrSetCond (f : Word32) (c : Bool) : Word32 :=
  (f &&& ~~~0x00800000#32) ||| (if c then 0x00800000#32 else 0#32)

/-- A cause that raises Floating-Point under these enables: E always, the others when enabled (spec/46_fpu.md R394). -/
def fcrTraps (cause : BitVec 6) (enable : BitVec 5) : Bool :=
  cause.getLsbD 5 || (cause.extractLsb' 0 5 &&& enable) != 0

end Sys2Proof.Machine
end

