-- ==== Sys2Proof/Machine/Operands.lean ====
section
/-! DEFINITION. Operand forms: immediates, targets, addresses, alignment, sign extension, byte order and the
partial-word merges (spec/30_encoding.md R174; spec/20_memory.md R100, R104; spec/40_load_store.md). -/

namespace Sys2Proof.Machine

/-- The low word of a doubleword. -/
def lowWord (v : Word) : Word32 := v.setWidth 32

/-- A 32-bit result as a register holds it (spec/10_state.md R23). -/
def sextWord (v : Word32) : Word := v.signExtend 64

/-- SE32: bits 63:31 are all equal (spec/41_alu.md R240). -/
def isSE32 (v : Word) : Bool := v == sextWord (lowWord v)

/-- The signed immediate (spec/30_encoding.md R174). -/
def signedImm (imm : BitVec 16) : Word := imm.signExtend 64

/-- The unsigned immediate (spec/30_encoding.md R174). -/
def zeroImm (imm : BitVec 16) : Word := imm.setWidth 64

/-- The upper immediate of LUI (spec/30_encoding.md R174). -/
def upperImm (imm : BitVec 16) : Word := sextWord (imm ++ 0#16)

/-- The target of a conditional branch at `pc` (spec/30_encoding.md R174; spec/43_branch_jump.md R310). -/
def branchTarget (pc : Word) (offset : BitVec 16) : Word :=
  pc + 4 + BitVec.signExtend 64 (offset ++ 0#2)

/-- The target of J and JAL at `pc` (spec/30_encoding.md R174; spec/43_branch_jump.md R312). -/
def jumpTarget (pc : Word) (target : BitVec 26) : Word :=
  (pc + 4).extractLsb' 28 36 ++ target ++ 0#2

/-- The effective address (spec/40_load_store.md R200). -/
def effectiveAddress (base : Word) (offset : BitVec 16) : Word := base + signedImm offset

/-- `va` is a multiple of n (spec/20_memory.md R104). -/
def isAligned (n : Nat) (va : Word) : Bool := va.toNat % n == 0

/-- The 64-bit shift amount of DSLL32, DSRL32 and DSRA32 (spec/30_encoding.md R174). -/
def shiftPlus32 (sa : BitVec 5) : Nat := sa.toNat + 32

/-- The 32-bit variable shift amount (spec/41_alu.md R280). -/
def shiftAmount32 (v : Word) : Nat := (v.extractLsb' 0 5).toNat

/-- The 64-bit variable shift amount (spec/41_alu.md R280). -/
def shiftAmount64 (v : Word) : Nat := (v.extractLsb' 0 6).toNat

/-- The low n bytes of `v`, most significant byte first (spec/20_memory.md R100, R131). -/
def bytesOf (n : Nat) (v : Word) : List Byte :=
  (List.range n).map fun i => v.extractLsb' (8 * (n - 1 - i)) 8

/-- The unsigned big-endian number of a list of bytes (spec/20_memory.md R100, R130). -/
def numberOf (bytes : List Byte) : Nat :=
  bytes.foldl (fun acc b => acc * 256 + b.toNat) 0

/-- The big-endian number of at most eight bytes, zero-extended (spec/20_memory.md R130). -/
def wordOf (bytes : List Byte) : Word := BitVec.ofNat 64 (numberOf bytes)

/-- Byte i, most significant first, of a 32-bit device register (spec/20_memory.md R103). -/
def byteOfReg (v : Word32) (i : Nat) : Byte := v.extractLsb' (8 * (3 - i)) 8

/-- A 32-bit device register with byte i replaced (spec/20_memory.md R103; spec/61_platform_devices.md R531). -/
def setByteOfReg (v : Word32) (i : Nat) (b : Byte) : Word32 :=
  (v &&& ~~~(0xFF#32 <<< (8 * (3 - i)))) ||| (b.setWidth 32 <<< (8 * (3 - i)))

/-- The low `8 * k` bits, as a mask of a doubleword. -/
def lowBytesMask (k : Nat) : Word := BitVec.ofNat 64 (2 ^ (8 * k) - 1)

/-- The merge of LWL: `m` is the number read, `b` the byte offset in the word (spec/40_load_store.md R208). -/
def mergeWordLeft (b : Nat) (m old : Word) : Word :=
  sextWord (lowWord (m <<< (8 * b)) ||| (lowWord old &&& lowWord (lowBytesMask b)))

/-- The merge of LWR, n bytes read (spec/40_load_store.md R209). -/
def mergeWordRight (n : Nat) (m old : Word) : Word :=
  sextWord ((lowWord old &&& ~~~(lowWord (lowBytesMask n))) ||| lowWord m)

/-- The merge of LDL (spec/40_load_store.md R210). -/
def mergeDoubleLeft (b : Nat) (m old : Word) : Word :=
  (m <<< (8 * b)) ||| (old &&& lowBytesMask b)

/-- The merge of LDR, n bytes read (spec/40_load_store.md R211). -/
def mergeDoubleRight (n : Nat) (m old : Word) : Word :=
  (old &&& ~~~(lowBytesMask n)) ||| m

/-- The byte offset of `va` in its aligned word. -/
def byteInWord (va : Word) : Nat := va.toNat % 4

/-- The byte offset of `va` in its aligned doubleword. -/
def byteInDouble (va : Word) : Nat := va.toNat % 8

end Sys2Proof.Machine
end

