-- ==== Sys2Proof/Machine/Ops.lean ====
section
/-! DEFINITION. The named operations over registers that the meanings share: free values, register access, retiring,
branching, taking an exception and returning from one (spec/10_state.md R20 to R32; spec/60_exceptions.md R480 to R490;
spec/45_cop0.md R374). -/

namespace Sys2Proof.Machine

/-- An effect that can stop before it is done. -/
abbrev Res (α : Type) := Except Stop α

/-- Stop with `stop` unless the condition holds. -/
def require (cond : Bool) (stop : Stop) : Res Unit :=
  if cond then .ok () else .error stop

/-- Raise an exception: the instruction has no effect of its own (spec/00_scope.md R8, `raise`). -/
def raise {α : Type} (e : Exc) : Res α := .error (.exc e)

/-- Refuse: the step has no meaning (spec/93_implementation_defined.md section 1). -/
def refuse {α : Type} (r : Refusal) : Res α := .error (.refused r)

/-! ### Free values -/

/-- The next free value (spec/00_scope.md R8, `draw`; log 8). -/
def drawn (s : State) : Word := Config.free s.draws

/-- Move past n free values. -/
def spendDraws (n : Nat) (s : State) : State := { s with draws := s.draws + n }

/-! ### General registers, HI and LO -/

/-- Read a general register; x[0] reads zero (spec/10_state.md R20). -/
def readGpr (s : State) (r : Reg) : Word :=
  if r = 0 then 0 else s.gpr[r.toNat]'(r.isLt)

/-- Write a general register; a write of x[0] is dropped (spec/10_state.md R21). -/
def writeGpr (s : State) (r : Reg) (v : Word) : State :=
  if r = 0 then s else { s with gpr := s.gpr.set r.toNat v r.isLt }

/-- Write HI and LO (spec/10_state.md R34). -/
def writeHiLo (s : State) (hi lo : Word) : State := { s with hi := hi, lo := lo }

/-! ### Floating-point registers (spec/10_state.md R30 to R32) -/

/-- Status.FR of a state. -/
def fr (s : State) : Bool := statusFr s.cp0.status

/-- The even register of a pair. -/
def evenReg (i : Reg) : Reg := i &&& 30#5

/-- A register number is odd. -/
def isOdd (i : Reg) : Bool := i.getLsbD 0

/-- A half of a cell as it reads: its bits when they were written under the present setting of FR, any value when they
were written under the other (spec/10_state.md R33; log 39). -/
def halfView (written now : Bool) (bits stale : Word32) : Word32 := if written = now then bits else stale

/-- A floating-point cell as it reads under the present FR. -/
def cell (s : State) (i : Reg) : Word :=
  let bits := s.fgr[i.toNat]'(i.isLt)
  let stale := Config.staleCell s.ticks i.toNat
  halfView (s.fgrHighFr[i.toNat]'(i.isLt)) (fr s) (bits.extractLsb' 32 32) (stale.extractLsb' 32 32) ++
    halfView (s.fgrLowFr[i.toNat]'(i.isLt)) (fr s) (bits.extractLsb' 0 32) (stale.extractLsb' 0 32)

/-- Write a floating-point cell. -/
def writeCell (s : State) (i : Reg) (v : Word) : State :=
  { s with
    fgr := s.fgr.set i.toNat v i.isLt
    fgrLowFr := s.fgrLowFr.set i.toNat (fr s) i.isLt
    fgrHighFr := s.fgrHighFr.set i.toNat (fr s) i.isLt }

/-- Write the low half of a cell; the other half keeps its bits. -/
def writeLow (s : State) (i : Reg) (v : Word32) : State :=
  { s with
    fgr := s.fgr.set i.toNat ((s.fgr[i.toNat]'(i.isLt)).extractLsb' 32 32 ++ v) i.isLt
    fgrLowFr := s.fgrLowFr.set i.toNat (fr s) i.isLt }

/-- Write the high half of a cell; the other half keeps its bits. -/
def writeHigh (s : State) (i : Reg) (v : Word32) : State :=
  { s with
    fgr := s.fgr.set i.toNat (v ++ (s.fgr[i.toNat]'(i.isLt)).extractLsb' 0 32) i.isLt
    fgrHighFr := s.fgrHighFr.set i.toNat (fr s) i.isLt }

/-- The 32-bit view f32[i] (spec/10_state.md R31). -/
def readF32 (s : State) (i : Reg) : Word32 :=
  if fr s then (cell s i).extractLsb' 0 32
  else if isOdd i then (cell s (evenReg i)).extractLsb' 32 32
  else (cell s i).extractLsb' 0 32

/-- A write of the 32-bit view; with FR = 1 the upper half becomes a free value, with FR = 0 the other half of the pair
is kept (spec/10_state.md R31). -/
def writeF32 (s : State) (i : Reg) (v : Word32) : State :=
  if fr s then spendDraws 1 (writeCell s i ((drawn s).extractLsb' 0 32 ++ v))
  else if isOdd i then writeHigh s (evenReg i) v
  else writeLow s i v

/-- The register number has a 64-bit view under the present FR (spec/10_state.md R32; spec/46_fpu.md R391). -/
def validF64 (s : State) (i : Reg) : Bool := fr s || !isOdd i

/-- Refuse an odd register when FR = 0 (spec/46_fpu.md R391). -/
def requireFloat (s : State) (i : Reg) : Res Unit :=
  require (validF64 s i) (.refused .oddFloatRegister)

/-! ### Retiring and branching (spec/10_state.md R26 to R28) -/

/-- Retire an instruction that is no branch: control goes to the recorded target after a delay slot, else to PC + 4. -/
def retire (s : State) : State :=
  match s.delay with
  | some target => { s with pc := target, delay := none }
  | none => { s with pc := s.pc + 4 }

/-- `pc <- T`: record the target, the delay slot runs next; refused in a delay slot (spec/10_state.md R27, R28). -/
def branchTo (target : Word) (s : State) : Res State :=
  match s.delay with
  | some _ => refuse .branchInDelaySlot
  | none => .ok { s with pc := s.pc + 4, delay := some target }

/-- A branch-likely that is not taken: the delay slot is nullified (spec/43_branch_jump.md R311). -/
def skipSlot (s : State) : Res State :=
  match s.delay with
  | some _ => refuse .branchInDelaySlot
  | none => .ok { s with pc := s.pc + 8 }

/-! ### Modes and permissions -/

/-- The mode, refused when Status gives none (spec/60_exceptions.md R460). -/
def currentMode (s : State) : Res Mode :=
  match modeOf s.cp0.status with
  | some m => .ok m
  | none => refuse .reservedMode

/-- Reserved Instruction unless 64-bit operations are permitted (spec/30_encoding.md R185). -/
def require64 (s : State) : Res Unit := do
  let m ← currentMode s
  require (ops64 s.cp0.status m) (.exc .reservedInstruction)

/-- Coprocessor Unusable unless coprocessor 0 is usable (spec/45_cop0.md R365). -/
def requireCop0 (s : State) : Res Unit := do
  let m ← currentMode s
  require (cop0Usable s.cp0.status m) (.exc (.coprocessorUnusable 0))

/-- Coprocessor Unusable unless coprocessor 1 is usable (spec/46_fpu.md R390). -/
def requireCop1 (s : State) : Res Unit :=
  require (statusCu1 s.cp0.status) (.exc (.coprocessorUnusable 1))

/-- Refuse an operand that is not a sign-extended word (spec/41_alu.md R240). -/
def requireSE32 (v : Word) : Res Unit :=
  require (isSE32 v) (.refused .notSignExtended)

/-! ### Taking an exception and returning from one -/

/-- Cause.ExcCode of an exception (spec/60_exceptions.md R450). -/
def excCode : Exc → BitVec 5
  | .interrupt => 0
  | .tlbModified _ => 1
  | .tlbRefill store _ _ => if store then 3 else 2
  | .tlbInvalid store _ => if store then 3 else 2
  | .addressError store _ => if store then 5 else 4
  | .systemCall => 8
  | .breakpoint => 9
  | .reservedInstruction => 10
  | .coprocessorUnusable _ => 11
  | .integerOverflow => 12
  | .trap => 13
  | .floatingPoint => 15
  | .watch => 23

/-- The offset of the vector from its base (spec/60_exceptions.md R480, R482). -/
def vectorOffset (e : Exc) (exl : Bool) : Word :=
  if exl then 0x180
  else match e with
    | .tlbRefill _ xtlb _ => if xtlb then 0x080 else 0x000
    | _ => 0x180

/-- The base of the vectors (spec/60_exceptions.md R480, R482). -/
def vectorBase (bev : Bool) : Word :=
  if bev then 0xFFFFFFFFBFC00200 else 0xFFFFFFFF80000000

/-- Where an exception goes (spec/60_exceptions.md R480, R482). -/
def exceptionVector (e : Exc) (st : Word32) : Word :=
  vectorBase (statusBev st) + vectorOffset e (statusExl st)

/-- The registers a TLB exception records (spec/60_exceptions.md R486). -/
def recordTlb (va : Word) (s : State) : State :=
  { s with cp0 := { s.cp0 with
      badVAddr := va
      context := { s.cp0.context with badVpn2 := va.extractLsb' 13 19 }
      xcontext := { s.cp0.xcontext with r := va.extractLsb' 62 2, badVpn2 := va.extractLsb' 13 27 }
      entryHi := { s.cp0.entryHi with r := va.extractLsb' 62 2, vpn2 := va.extractLsb' 13 27 } } }

/-- The registers an Address Error records; the translation registers become free values (spec/60_exceptions.md R485). -/
def recordAddress (va : Word) (s : State) : State :=
  let a := Config.free s.draws
  let b := Config.free (s.draws + 1)
  let c := Config.free (s.draws + 2)
  spendDraws 3 { s with cp0 := { s.cp0 with
      badVAddr := va
      context := { s.cp0.context with badVpn2 := a.extractLsb' 0 19 }
      xcontext := { s.cp0.xcontext with r := b.extractLsb' 62 2, badVpn2 := b.extractLsb' 0 27 }
      entryHi := { s.cp0.entryHi with r := c.extractLsb' 62 2, vpn2 := c.extractLsb' 0 27 } } }

/-- What an exception records beyond EPC and Cause (spec/60_exceptions.md R485, R486). -/
def recordFault (e : Exc) (s : State) : State :=
  match e with
  | .addressError _ va => recordAddress va s
  | .tlbModified va => recordTlb va s
  | .tlbRefill _ _ va => recordTlb va s
  | .tlbInvalid _ va => recordTlb va s
  | _ => s

/-- Cause.ExcCode and Cause.CE; CE is a free value unless the exception is Coprocessor Unusable
(spec/60_exceptions.md R480; U33). -/
def recordCause (e : Exc) (s : State) : State :=
  match e with
  | .coprocessorUnusable unit =>
    { s with cp0 := { s.cp0 with cause := { s.cp0.cause with excCode := excCode e, ce := unit } } }
  | _ =>
    spendDraws 1 { s with cp0 := { s.cp0 with
      cause := { s.cp0.cause with excCode := excCode e, ce := (drawn s).extractLsb' 0 2 } } }

/-- EPC and Cause.BD, saved only when EXL is not already set (spec/60_exceptions.md R480, R481). -/
def saveEpc (s : State) : State :=
  if statusExl s.cp0.status then s
  else { s with cp0 := { s.cp0 with
    epc := if s.delay.isSome then s.pc - 4 else s.pc
    cause := { s.cp0.cause with bd := s.delay.isSome } } }

/-- Exception entry for the instruction at PC, in a delay slot when `delay` is active, and for an interrupt before
it (spec/60_exceptions.md R480). Nothing else changes. -/
def takeException (e : Exc) (s : State) : State :=
  let t := recordFault e (recordCause e (saveEpc s))
  { t with
    cp0 := { t.cp0 with status := t.cp0.status ||| 0x00000002 }
    pc := exceptionVector e s.cp0.status
    delay := none }

/-- The return from an exception (spec/45_cop0.md R374; spec/60_exceptions.md R490). -/
def returnFromException (s : State) : State :=
  if statusErl s.cp0.status then
    { s with
      pc := s.cp0.errorEpc
      cp0 := { s.cp0 with status := s.cp0.status &&& ~~~0x00000004#32 }
      llbit := false }
  else
    { s with
      pc := s.cp0.epc
      cp0 := { s.cp0 with status := s.cp0.status &&& ~~~0x00000002#32 }
      llbit := false }

/-! ### Ending an instruction -/

/-- The answer of an instruction: its own next state, or the entry of the exception it raised from the state before
it (spec/00_scope.md R8, `raise`; spec/10_state.md R26), or a stop. -/
def finish (s : State) (r : Res State) : Result :=
  match r with
  | .ok t => .next t
  | .error (.exc e) => .next (takeException e s)
  | .error (.fault f) => .fault f
  | .error (.refused q) => .refused q

/-- An instruction that is no branch: its effect, then retiring. -/
def complete (s : State) (r : Res State) : Result :=
  finish s (do
    let t ← r
    pure (retire t))

end Sys2Proof.Machine
end

