-- ==== Sys2Proof/Machine/Translate.lean ====
section
/-! DEFINITION. Virtual addresses: segments, the TLB, and the checks of one access in order
(spec/20_memory.md R110 to R122; spec/60_exceptions.md R488). -/

namespace Sys2Proof.Machine

/-- What a segment does with an address it accepts. -/
inductive Segment where
  /-- translated without the TLB -/
  | unmapped (paddr : PAddr)
  /-- translated by the TLB -/
  | mapped
deriving DecidableEq, Repr

/-- `lo ≤ va ≤ hi`, as unsigned numbers. -/
def inRange (va lo hi : Word) : Bool := decide (lo ≤ va) && decide (va ≤ hi)

/-- The low 2 GB of the user segment: unmapped when ERL = 1 (spec/20_memory.md R110, R112). -/
def userLow (erl : Bool) (va : Word) : Segment :=
  if erl && inRange va 0 0x7FFFFFFF then .unmapped (va.setWidth 32) else .mapped

/-- The kernel's four segments of the sign-extended upper half (spec/20_memory.md R110, R112). -/
def kernelUpper (va : Word) : Segment :=
  if inRange va 0xFFFFFFFF80000000 0xFFFFFFFFBFFFFFFF then .unmapped ((va.extractLsb' 0 29).setWidth 32)
  else .mapped

/-- 32-bit addressing (spec/20_memory.md R110, R111); none is an Address Error. -/
def segment32 (m : Mode) (erl : Bool) (va : Word) : Option Segment :=
  match m with
  | .kernel =>
    if inRange va 0 0x7FFFFFFF then some (userLow erl va)
    else if inRange va 0xFFFFFFFF80000000 0xFFFFFFFFFFFFFFFF then some (kernelUpper va)
    else none
  | .supervisor =>
    if inRange va 0 0x7FFFFFFF then some .mapped
    else if inRange va 0xFFFFFFFFC0000000 0xFFFFFFFFDFFFFFFF then some .mapped
    else none
  | .user =>
    if inRange va 0 0x7FFFFFFF then some .mapped else none

/-- 64-bit addressing (spec/20_memory.md R112); none is an Address Error. -/
def segment64 (m : Mode) (erl : Bool) (va : Word) : Option Segment :=
  match m with
  | .kernel =>
    if inRange va 0 0x000000FFFFFFFFFF then some (userLow erl va)
    else if inRange va 0x4000000000000000 0x400000FFFFFFFFFF then some .mapped
    else if inRange va 0x8000000000000000 0xBFFFFFFFFFFFFFFF then
      if va.extractLsb' 32 27 = 0 then some (.unmapped (va.setWidth 32)) else none
    else if inRange va 0xC000000000000000 0xC00000FF7FFFFFFF then some .mapped
    else if inRange va 0xFFFFFFFF80000000 0xFFFFFFFFFFFFFFFF then some (kernelUpper va)
    else none
  | .supervisor =>
    if inRange va 0 0x000000FFFFFFFFFF then some .mapped
    else if inRange va 0x4000000000000000 0x400000FFFFFFFFFF then some .mapped
    else if inRange va 0xFFFFFFFFC0000000 0xFFFFFFFFDFFFFFFF then some .mapped
    else none
  | .user =>
    if inRange va 0 0x000000FFFFFFFFFF then some .mapped else none

/-- The segment of an address in the addressing width of the mode (spec/20_memory.md R111 to R113). -/
def segmentOf (st : Word32) (m : Mode) (va : Word) : Option Segment :=
  if wideAddressing st m then segment64 m (statusErl st) va else segment32 m (statusErl st) va

/-- An entry matches a region, a VPN2 and an ASID (spec/20_memory.md R118; spec/45_cop0.md R373). -/
def entryMatches (e : TlbEntry) (r : BitVec 2) (vpn2 : BitVec 27) (asid : BitVec 8) : Bool :=
  e.r == r && ((e.vpn2 &&& ~~~(e.mask.setWidth 27)) == (vpn2 &&& ~~~(e.mask.setWidth 27))) &&
    (e.g || e.asid == asid)

/-- The entries that match, in rising order of their numbers. -/
def matchingEntries (s : State) (r : BitVec 2) (vpn2 : BitVec 27) (asid : BitVec 8) : List (Fin 32) :=
  (List.finRange 32).filter fun i => entryMatches s.tlb[i] r vpn2 asid

/-- The number of 1 bits of a legal Mask, none for an illegal one (spec/10_state.md R45; spec/20_memory.md R120). -/
def maskBits (mask : BitVec 12) : Option Nat :=
  if mask = 0x000 then some 0
  else if mask = 0x003 then some 2
  else if mask = 0x00F then some 4
  else if mask = 0x03F then some 6
  else if mask = 0x0FF then some 8
  else if mask = 0x3FF then some 10
  else if mask = 0xFFF then some 12
  else none

/-- off_mask: the bits of the address inside the page (spec/20_memory.md R121). -/
def offsetMask (mask : BitVec 12) : Word := (mask.setWidth 64 <<< 12) ||| 0xFFF

/-- The physical address of a page and an address in it (spec/20_memory.md R121). -/
def pageAddress (mask : BitVec 12) (p : TlbPage) (va : Word) : PAddr :=
  ((((p.pfn.extractLsb' 0 20).setWidth 64 <<< 12) &&& ~~~(offsetMask mask)) ||| (va &&& offsetMask mask)).setWidth 32

/-- Translation by the TLB of a valid mapped address (spec/20_memory.md R118 to R121). -/
def tlbTranslate (store wide : Bool) (va : Word) (s : State) : Res PAddr :=
  match matchingEntries s (va.extractLsb' 62 2) (va.extractLsb' 13 27) s.cp0.entryHi.asid with
  | [] => raise (.tlbRefill store wide va)
  | [i] =>
    match maskBits s.tlb[i].mask with
    | none => refuse .illegalPageMask
    | some k =>
      let p := if va.getLsbD (12 + k) then s.tlb[i].page1 else s.tlb[i].page0
      if !p.v then raise (.tlbInvalid store va)
      else if store && !p.d then raise (.tlbModified va)
      else .ok (pageAddress s.tlb[i].mask p va)
  | _ => refuse .multipleTlbMatch

/-- Segment validity, then the TLB where the segment is mapped: checks 2 and 3 of an access (spec/20_memory.md R122). -/
def translate (store : Bool) (va : Word) (s : State) : Res PAddr := do
  let m ← currentMode s
  match segmentOf s.cp0.status m va with
  | none => raise (.addressError store va)
  | some (.unmapped p) => .ok p
  | some .mapped => tlbTranslate store (wideAddressing s.cp0.status m) va s

/-- The physical address is watched for this kind of access (spec/60_exceptions.md R488). -/
def watchMatches (store : Bool) (p : PAddr) (s : State) : Bool :=
  (p.extractLsb' 3 29 == s.cp0.watchLo.extractLsb' 3 29) && (s.cp0.watchHi == 0) &&
    (if store then s.cp0.watchLo.getLsbD 0 else s.cp0.watchLo.getLsbD 1)

/-- The Watch check; a match while EXL or ERL is set is refused (spec/60_exceptions.md R488). -/
def checkWatch (store : Bool) (p : PAddr) (s : State) : Res Unit :=
  if watchMatches store p s then
    if statusExl s.cp0.status || statusErl s.cp0.status then refuse .watchPostponed else raise .watch
  else .ok ()

/-- Refuse a reverse-endian access of user mode (spec/20_memory.md R101). -/
def checkByteOrder (s : State) : Res Unit := do
  let m ← currentMode s
  require (!(m == .user && statusRe s.cp0.status)) (.refused .reverseEndian)

/-- All the checks of a data access of `va` that needs a multiple of n, in the order of spec/20_memory.md R122;
the answer is the physical address of `va`. -/
def dataAddress (store : Bool) (n : Nat) (va : Word) (s : State) : Res PAddr := do
  checkByteOrder s
  require (isAligned n va) (.exc (.addressError store va))
  let p ← translate store va s
  checkWatch store p s
  pure p

/-- The checks of an instruction fetch; Watch does not apply (spec/20_memory.md R132). -/
def fetchAddress (va : Word) (s : State) : Res PAddr := do
  checkByteOrder s
  require (isAligned 4 va) (.exc (.addressError false va))
  translate false va s

end Sys2Proof.Machine
end

