-- ==== Sys2Proof/Machine/Bus.lean ====
section
/-! DEFINITION. The address-space bus, the device table, the register blocks, DMA and the PIF
(spec/20_memory.md R130 to R152; spec/61_platform_devices.md R530 to R595). -/

namespace Sys2Proof.Machine

/-! ### The device table -/

/-- The slots of the device table (spec/20_memory.md R150). -/
inductive Slot where
  | rdram | rdramReg | spDmem | spImem | spReg | spPcReg | dpcReg | dpsReg | miReg | viReg | aiReg | piReg
  | riReg | siReg | cartRom | pifRom | pifRam
deriving DecidableEq, Repr

/-- One row of the device table; `last` is inclusive. -/
structure SlotRow where
  slot  : Slot
  first : Nat
  last  : Nat
deriving DecidableEq, Repr

/-- The fixed decode table (spec/20_memory.md R142, R150). -/
def deviceTable : List SlotRow :=
  [ ⟨.rdram, 0x00000000, 0x03EFFFFF⟩,
    ⟨.rdramReg, 0x03F00000, 0x03FFFFFF⟩,
    ⟨.spDmem, 0x04000000, 0x04000FFF⟩,
    ⟨.spImem, 0x04001000, 0x04001FFF⟩,
    ⟨.spReg, 0x04040000, 0x0404001F⟩,
    ⟨.spPcReg, 0x04080000, 0x04080007⟩,
    ⟨.dpcReg, 0x04100000, 0x0410001F⟩,
    ⟨.dpsReg, 0x04200000, 0x0420000F⟩,
    ⟨.miReg, 0x04300000, 0x0430000F⟩,
    ⟨.viReg, 0x04400000, 0x04400037⟩,
    ⟨.aiReg, 0x04500000, 0x04500017⟩,
    ⟨.piReg, 0x04600000, 0x04600033⟩,
    ⟨.riReg, 0x04700000, 0x0470001F⟩,
    ⟨.siReg, 0x04800000, 0x0480001B⟩,
    ⟨.cartRom, 0x10000000, 0x1FBFFFFF⟩,
    ⟨.pifRom, 0x1FC00000, 0x1FC007BF⟩,
    ⟨.pifRam, 0x1FC007C0, 0x1FC007FF⟩ ]

/-- The row that claims an address. -/
def claims (a : Nat) (row : SlotRow) : Bool := decide (row.first ≤ a) && decide (a ≤ row.last)

/-- The slot of a physical address and the offset in it, none when no device claims it (spec/20_memory.md R142). -/
def resolve (p : PAddr) : Option (Slot × Nat) :=
  (deviceTable.find? (claims p.toNat)).map fun row => (row.slot, p.toNat - row.first)

/-- The fault of an address no device claims (spec/20_memory.md R143). -/
def noDevice {α : Type} (p : PAddr) : Res α := .error (.fault (.busFault p))

/-! ### Register blocks (spec/61_platform_devices.md R530, R531) -/

/-- The blocks whose registers the spec describes. -/
inductive Block where
  | vi | pi | si | sp | spPc
deriving DecidableEq, Repr

/-- The bits of a slot that its write side stores; 0 for a slot that ignores writes
(spec/61_platform_devices.md R531, R545, R550, R555, R561, R567; log 30). -/
def slotMask (blk : Block) (k : Nat) : Word32 :=
  match blk with
  | .vi => ([0x0001FFFF, 0x00FFFFFF, 0x00000FFF, 0x000003FF, 0x00000000, 0x3FFFFFFF, 0x000003FF, 0x001FFFFF,
      0x0FFFFFFF, 0x03FF03FF, 0x03FF03FF, 0x03FFFFFF, 0x0FFF0FFF, 0x0FFF0FFF] : List Word32).getD k 0
  | .pi => ([0x00FFFFFF, 0xFFFFFFFF, 0x00FFFFFF, 0x00FFFFFF, 0xFFFFFFFF, 0x000000FF, 0x000000FF, 0x0000000F,
      0x00000003, 0x000000FF, 0x000000FF, 0x0000000F, 0x00000003] : List Word32).getD k 0
  | .si => ([0x00FFFFFF, 0xFFFFFFFF, 0x00000000, 0x00000000, 0xFFFFFFFF, 0x00000000, 0xFFFFFFFF] : List Word32).getD k 0
  | .sp => ([0x00001FFF, 0x00FFFFFF, 0xFFFFFFFF, 0xFFFFFFFF, 0xFFFFFFFF, 0x00000000, 0x00000000,
      0xFFFFFFFF] : List Word32).getD k 0
  | .spPc => ([0x00000FFC, 0x00000000] : List Word32).getD k 0

/-- The bits of a slot that read as free values (spec/61_platform_devices.md R545, R550, R555, R567; log 29). -/
def drawMask (blk : Block) (k : Nat) : Word32 :=
  match blk, k with
  | .vi, 4 => 0xFFFFFFFF
  | .pi, 4 => 0x00000008
  | .si, 6 => 0x00001000
  | .spPc, 1 => 0xFFFFFFFF
  | _, _ => 0

/-- The write side of a slot. -/
def writeSide (blk : Block) (k : Nat) (s : State) : Word32 :=
  match blk with
  | .vi => s.viRegs.toList.getD k 0
  | .pi => s.piRegs.toList.getD k 0
  | .si => s.siRegs.toList.getD k 0
  | .sp => s.spRegs.toList.getD k 0
  | .spPc => s.spPcRegs.toList.getD k 0

/-- The write side of a slot set, under the slot's mask. -/
def setWriteSide (blk : Block) (k : Nat) (v : Word32) (s : State) : State :=
  match blk with
  | .vi => { s with viRegs := s.viRegs.setIfInBounds k (v &&& slotMask .vi k) }
  | .pi => { s with piRegs := s.piRegs.setIfInBounds k (v &&& slotMask .pi k) }
  | .si => { s with siRegs := s.siRegs.setIfInBounds k (v &&& slotMask .si k) }
  | .sp => { s with spRegs := s.spRegs.setIfInBounds k (v &&& slotMask .sp k) }
  | .spPc => { s with spPcRegs := s.spPcRegs.setIfInBounds k (v &&& slotMask .spPc k) }

/-- One bit at a place of a word. -/
def bitAt (i : Nat) (b : Bool) : Word32 := if b then 1#32 <<< i else 0

/-- SP_STATUS, read side (spec/61_platform_devices.md R564). -/
def spStatusWord (f : SpStatus) : Word32 :=
  bitAt 0 f.halt ||| bitAt 1 f.broke ||| bitAt 5 f.sstep ||| bitAt 6 f.intrBreak ||| (f.sig.setWidth 32 <<< 7)

/-- The read side of a slot, its free bits 0 (spec/61_platform_devices.md R531, R541, R564, R566). -/
def readSide (blk : Block) (k : Nat) (s : State) : Word32 :=
  match blk, k with
  | .pi, 4 => 0
  | .si, 6 => 0
  | .sp, 4 => spStatusWord s.spStatus
  | .sp, 7 => bitAt 0 s.semaphore
  | _, _ => writeSide blk k s

/-- One byte of a register block; its free bits take a new free value (spec/20_memory.md R103). -/
def readRegByte (blk : Block) (off : Nat) (s : State) : Byte × State :=
  let fixed := byteOfReg (readSide blk (off / 4) s) (off % 4)
  let open_ := byteOfReg (drawMask blk (off / 4)) (off % 4)
  if open_ = 0 then (fixed, s)
  else (fixed ||| ((drawn s).extractLsb' 0 8 &&& open_), spendDraws 1 s)

/-- One byte of a register block written: the write side is merged byte by byte (spec/61_platform_devices.md R531). -/
def writeRegByte (blk : Block) (off : Nat) (b : Byte) (s : State) : State :=
  setWriteSide blk (off / 4) (setByteOfReg (writeSide blk (off / 4) s) (off % 4) b) s

/-! ### Bytes of the bus -/

/-- A byte that is a free value (spec/61_platform_devices.md R570; spec/20_memory.md R152). -/
def drawByte (s : State) : Byte × State := ((drawn s).extractLsb' 0 8, spendDraws 1 s)

/-- One byte read of the device that claims the address, without the semaphore's side effect
(spec/20_memory.md R140, R143, R151, R152; spec/61_platform_devices.md R570). -/
def readByte (p : PAddr) (s : State) : Res (Byte × State) :=
  match resolve p with
  | none => noDevice p
  | some (slot, off) =>
    match slot with
    | .rdram => if off < s.rdramSize then .ok (memByte p.toNat s, s) else noDevice p
    | .spDmem | .spImem | .pifRom | .pifRam => .ok (memByte p.toNat s, s)
    | .cartRom =>
      match Memory.lookup p.toNat s.mem with
      | some b => .ok (b, s)
      | none => .ok (drawByte s)
    | .viReg => .ok (readRegByte .vi off s)
    | .piReg => .ok (readRegByte .pi off s)
    | .siReg => .ok (readRegByte .si off s)
    | .spReg => .ok (readRegByte .sp off s)
    | .spPcReg => .ok (readRegByte .spPc off s)
    | .rdramReg | .dpcReg | .dpsReg | .miReg | .aiReg | .riReg => .ok (drawByte s)

/-- One byte written to the device that claims the address, without side effects
(spec/20_memory.md R140, R143, R151, R152; spec/61_platform_devices.md R570). -/
def writeByte (p : PAddr) (b : Byte) (s : State) : Res State :=
  match resolve p with
  | none => noDevice p
  | some (slot, off) =>
    match slot with
    | .rdram => if off < s.rdramSize then .ok (setMemByte p.toNat b s) else noDevice p
    | .spDmem | .spImem | .pifRam => .ok (setMemByte p.toNat b s)
    | .viReg => .ok (writeRegByte .vi off b s)
    | .piReg => .ok (writeRegByte .pi off b s)
    | .siReg => .ok (writeRegByte .si off b s)
    | .spReg => .ok (writeRegByte .sp off b s)
    | .spPcReg => .ok (writeRegByte .spPc off b s)
    | .cartRom | .pifRom | .rdramReg | .dpcReg | .dpsReg | .miReg | .aiReg | .riReg => .ok s

/-- The spans `[a, a + n)` and `[first, first + len)` have a byte in common. -/
def touches (a n first len : Nat) : Bool := decide (a < first + len) && decide (first < a + n)

/-- n bytes read at rising addresses. -/
def readBytes : Nat → PAddr → State → Res (List Byte × State)
  | 0, _, s => .ok ([], s)
  | n + 1, p, s => do
    let (b, s) ← readByte p s
    let (rest, s) ← readBytes n (p + 1) s
    pure (b :: rest, s)

/-- A bus read that touches SP_SEMAPHORE sets it afterwards (spec/61_platform_devices.md R566). -/
def takeSemaphore (a n : Nat) (s : State) : State :=
  if touches a n 0x0404001C 4 then { s with semaphore := true } else s

/-- BusRead (spec/20_memory.md R140). -/
def busRead (p : PAddr) (n : Nat) (s : State) : Res (List Byte × State) := do
  let (bytes, s) ← readBytes n p s
  pure (bytes, takeSemaphore p.toNat n s)

/-- Bytes stored at rising addresses, before any side effect. -/
def storeBytes : List Byte → PAddr → State → Res State
  | [], _, s => .ok s
  | b :: rest, p, s => do
    let s ← writeByte p b s
    storeBytes rest (p + 1) s

/-! ### The PIF (spec/61_platform_devices.md R575 to R595) -/

/-- The physical address of byte i of PIF RAM (spec/61_platform_devices.md R575). -/
def pifRamAddr (i : Nat) : Nat := 0x1FC007C0 + i

/-- A byte of PIF RAM. -/
def ram (i : Nat) (s : State) : Byte := memByte (pifRamAddr i) s

/-- The device-identification bytes of a channel (spec/61_platform_devices.md R582). -/
def identification (ch : Nat) : List Byte :=
  if ch = 0 then [0x05, 0x00, 0x02]
  else if ch ≤ 3 then [0xFF, 0xFF, 0xFF]
  else [Config.pifEepromId.extractLsb' 16 8, Config.pifEepromId.extractLsb' 8 8, Config.pifEepromId.extractLsb' 0 8]

/-- The four response bytes of a controller latch (spec/61_platform_devices.md R582, R590). -/
def latchBytes (l : Latch) : List Byte :=
  [l.buttons.extractLsb' 8 8, l.buttons.extractLsb' 0 8, l.x, l.y]

/-- Serve one JoyBus packet: at most `rl` response bytes at `resp` (spec/61_platform_devices.md R582). -/
def joyBusDispatch (ch : Nat) (cmd : Byte) (resp rl : Nat) (s : State) : State :=
  if cmd = 0x00 ∨ cmd = 0xFF then setMemBytes (pifRamAddr resp) ((identification ch).take rl) s
  else if cmd = 0x01 then
    match s.latch[ch]? with
    | some l =>
      { setMemBytes (pifRamAddr resp) ((latchBytes l).take rl) s with
        latch := s.latch.setIfInBounds ch Latch.empty }
    | none => s
  else s

/-- The JoyBus scan from byte p with `left` channels left of the five (spec/61_platform_devices.md R581, R583). -/
def joyBusScan : (left p : Nat) → State → State
  | 0, _, s => s
  | left + 1, p, s =>
    if 0x3E < p then s
    else
      let tx := ram p s
      if tx = 0xFE then s
      else if tx = 0xFF then joyBusScan left (p + 1) s
      else if tx &&& 0x3F = 0 then joyBusScan left (p + 1) s
      else if 0x3E < p + 1 then s
      else
        let rx := ram (p + 1) s
        if rx = 0xFE then s
        else
          let tl := (tx &&& 0x3F).toNat
          let rl := (rx &&& 0x3F).toNat
          if 0x3F < p + 2 + tl + rl then s
          else joyBusScan left (p + 2 + tl + rl)
            (joyBusDispatch (5 - (left + 1)) (ram (p + 2) s) (p + 2 + tl) rl s)

/-- PifProcess (spec/61_platform_devices.md R576, R580, R595). -/
def pifProcess (s : State) : Res State :=
  let c := ram 0x3F s
  if c &&& 0xB6 ≠ 0 then refuse .pifCommand
  else if c &&& 0x40 ≠ 0 then .ok (setMemBytes (pifRamAddr 0) (List.replicate 64 0) s)
  else if c &&& 0x01 ≠ 0 then .ok (joyBusScan 5 0 s)
  else .ok s

/-! ### Side effects of the register slots and DMA -/

/-- A flag under its clear and set commands; both together leave it (spec/61_platform_devices.md R565). -/
def flagCommand (clear set old : Bool) : Bool :=
  if clear && !set then false else if set && !clear then true else old

/-- The commands of a word written to SP_STATUS (spec/61_platform_devices.md R565). -/
def spStatusCommand (w : Word32) (f : SpStatus) : SpStatus :=
  { halt := flagCommand (w.getLsbD 0) (w.getLsbD 1) f.halt
    broke := if w.getLsbD 2 then false else f.broke
    sstep := flagCommand (w.getLsbD 5) (w.getLsbD 6) f.sstep
    intrBreak := flagCommand (w.getLsbD 7) (w.getLsbD 8) f.intrBreak
    sig := BitVec.ofFnLE fun k : Fin 8 =>
      flagCommand (w.getLsbD (9 + 2 * k.val)) (w.getLsbD (10 + 2 * k.val)) (f.sig.getLsbD k.val) }

/-- The slots with a post-write side effect (spec/61_platform_devices.md R533). -/
inductive Effect where
  | spRdLen | spWrLen | spStatus | spSemaphore | piRdLen | piWrLen | siRead | siWrite | pifCommand
deriving DecidableEq, Repr

/-- Where each side effect's slot lies, in ascending address order (spec/61_platform_devices.md R533). -/
def effectTable : List (Effect × Nat × Nat) :=
  [ (.spRdLen, 0x04040008, 4), (.spWrLen, 0x0404000C, 4), (.spStatus, 0x04040010, 4), (.spSemaphore, 0x0404001C, 4),
    (.piRdLen, 0x04600008, 4), (.piWrLen, 0x0460000C, 4), (.siRead, 0x04800004, 4), (.siWrite, 0x04800010, 4),
    (.pifCommand, 0x1FC007FF, 1) ]

/-- The side effects a write of n bytes at a sets off, in ascending address order. -/
def touchedEffects (a n : Nat) : List Effect :=
  (effectTable.filter fun row => touches a n row.2.1 row.2.2).map fun row => row.1

/-- A transfer: source, destination, byte count. -/
structure Transfer where
  src   : PAddr
  dst   : PAddr
  count : Nat
deriving DecidableEq, Repr

/-- The SP-side address of a signal-processor transfer (spec/61_platform_devices.md R562). -/
def spMemAddr (s : State) : PAddr :=
  (if (writeSide .sp 0 s).getLsbD 12 then 0x04001000#32 else 0x04000000#32) +
    ((writeSide .sp 0 s).extractLsb' 0 12).setWidth 32

/-- The RDRAM address of a signal-processor transfer (spec/61_platform_devices.md R562). -/
def spRamAddr (s : State) : PAddr := ((writeSide .sp 1 s).extractLsb' 0 24).setWidth 32

/-- A signal-processor transfer is one the document and hardware agree on (spec/61_platform_devices.md R563). -/
def spAligned (len : Word32) (s : State) : Bool :=
  let off := ((writeSide .sp 0 s).extractLsb' 0 12).toNat
  let count := (len.extractLsb' 0 12).toNat + 1
  (len.extractLsb' 12 20 == 0) && (count % 8 == 0) && (off % 8 == 0) && ((spRamAddr s).toNat % 8 == 0) &&
    decide (off + count ≤ 0x1000)

/-- A signal-processor transfer, into SP memory or out of it (spec/61_platform_devices.md R563). -/
def spTransfer (toSp : Bool) (s : State) : Res Transfer :=
  let len := writeSide .sp (if toSp then 2 else 3) s
  let count := (len.extractLsb' 0 12).toNat + 1
  if spAligned len s then
    .ok (if toSp then ⟨spRamAddr s, spMemAddr s, count⟩ else ⟨spMemAddr s, spRamAddr s, count⟩)
  else refuse .dmaUnaligned

/-- A parallel-interface transfer, to the cartridge or from it (spec/61_platform_devices.md R551). -/
def piTransfer (toCart : Bool) (s : State) : Res Transfer :=
  let len := writeSide .pi (if toCart then 2 else 3) s
  let count := (len.extractLsb' 0 24).toNat + 1
  let ramAddr : PAddr := ((writeSide .pi 0 s).extractLsb' 0 24).setWidth 32
  let cart : PAddr := writeSide .pi 1 s
  if ramAddr.toNat % 8 == 0 && cart.toNat % 2 == 0 && count % 2 == 0 then
    .ok (if toCart then ⟨ramAddr, cart, count⟩ else ⟨cart, ramAddr, count⟩)
  else refuse .dmaUnaligned

/-- A serial-interface transfer, to PIF RAM or from it: always its 64 bytes (spec/61_platform_devices.md R556). -/
def siTransfer (toPif : Bool) (s : State) : Res Transfer :=
  let ramAddr : PAddr := ((writeSide .si 0 s).extractLsb' 0 24).setWidth 32
  if ramAddr.toNat % 8 == 0 then
    .ok (if toPif then ⟨ramAddr, 0x1FC007C0, 64⟩ else ⟨0x1FC007C0, ramAddr, 64⟩)
  else refuse .dmaUnaligned

/-- A fault inside a copy carries the number of bytes already copied and the state they leave
(spec/61_platform_devices.md R543). -/
def withCopied {α : Type} (copied : Nat) (left : State) (r : Res α) : Res α :=
  match r with
  | .error (.fault (.busFault p)) => .error (.fault (.dmaBusFault p copied left))
  | r => r

/-- The bytes of DmaCopy, ascending, each resolved on its own; `copied` counts those done
(spec/61_platform_devices.md R540). -/
def copyBytes : (left copied : Nat) → (src dst : PAddr) → State → Res State
  | 0, _, _, _, s => .ok s
  | left + 1, copied, src, dst, s => do
    let (bytes, s) ← withCopied copied s (busRead src 1 s)
    let s ← withCopied copied s (storeBytes bytes dst s)
    copyBytes left (copied + 1) (src + 1) (dst + 1) s

/-- The staged registers of a pair become free values when a transfer ends, under the slots' masks. Each is one value,
drawn then and held until the next write, so two reads of it agree (spec/61_platform_devices.md R542; U40; DEDUCED,
log 27). -/
def scrambleStaged (blk : Block) (slots : List Nat) (s : State) : State :=
  slots.foldl (fun s k => spendDraws 1 (setWriteSide blk k ((drawn s).extractLsb' 0 32) s)) s

/-- The side effect of one slot. A transfer copies its bytes, sets off the side effects of the bytes it wrote, and
leaves its staged registers free. `fuel` counts the transfers that may still start inside each other
(spec/61_platform_devices.md R533, R540, R542, R565, R566, R580; log 28). -/
def fireEffect : (fuel : Nat) → Effect → State → Res State
  | 0, _, _ => refuse .dmaNeverEnds
  | fuel + 1, e, s =>
    let transfer (r : Res Transfer) (blk : Block) (staged : List Nat) : Res State := do
      let t ← r
      let s ← copyBytes t.count 0 t.src t.dst s
      let s ← (touchedEffects t.dst.toNat t.count).foldlM (fun s e => fireEffect fuel e s) s
      pure (scrambleStaged blk staged s)
    match e with
    | .spRdLen => transfer (spTransfer true s) .sp [0, 1, 2]
    | .spWrLen => transfer (spTransfer false s) .sp [0, 1, 3]
    | .piRdLen => transfer (piTransfer true s) .pi [0, 1, 2]
    | .piWrLen => transfer (piTransfer false s) .pi [0, 1, 3]
    | .siRead => transfer (siTransfer false s) .si [0, 1]
    | .siWrite => transfer (siTransfer true s) .si [0, 4]
    | .spStatus => .ok { s with spStatus := spStatusCommand (writeSide .sp 4 s) s.spStatus }
    | .spSemaphore => .ok { s with semaphore := false }
    | .pifCommand => pifProcess s

/-- A depth that every chain of transfers which ends stays below, so that only a chain without end is refused.
Only PI_RD_LEN copying into the PI block itself can start another PI_RD_LEN, and each step of that descent is fixed by
the three staged registers: at most 2^21 source addresses (a multiple of 8 in 24 bits), 26 destinations and 26 lengths
(even, inside the 52 bytes of the block). A deeper descent repeats a state, so it never ends
(spec/61_platform_devices.md R533, R550, R551; log 28). -/
def dmaDepth : Nat := 0x100000000

/-- All the side effects of a write of n bytes at a, in ascending address order (spec/61_platform_devices.md R533). -/
def fireEffects (a n : Nat) (s : State) : Res State :=
  (touchedEffects a n).foldlM (fun s e => fireEffect dmaDepth e s) s

/-- BusWrite: store every byte, then the side effects (spec/20_memory.md R140; spec/61_platform_devices.md R533). -/
def busWrite (p : PAddr) (bytes : List Byte) (s : State) : Res State := do
  let s ← storeBytes bytes p s
  fireEffects p.toNat bytes.length s

/-! ### The access primitives (spec/20_memory.md R130 to R132) -/

/-- A data load of n bytes: the checks on `va` for a multiple of `align`, then n bytes from `back` bytes below it. -/
def loadBytes (align back n : Nat) (va : Word) (s : State) : Res (Word × State) := do
  let p ← dataAddress false align va s
  let (bytes, s) ← busRead (p - BitVec.ofNat 32 back) n s
  pure (wordOf bytes, s)

/-- A data store of the low n bytes of `v`: the checks on `va`, then the bytes from `back` bytes below it. -/
def storeValue (align back n : Nat) (va v : Word) (s : State) : Res State := do
  let p ← dataAddress true align va s
  busWrite (p - BitVec.ofNat 32 back) (bytesOf n v) s

/-- Fetch: one big-endian word (spec/20_memory.md R132). -/
def fetchWord (s : State) : Res (Word32 × State) := do
  let p ← fetchAddress s.pc s
  let (bytes, s) ← busRead p 4 s
  pure (BitVec.ofNat 32 (numberOf bytes), s)

end Sys2Proof.Machine
end

