-- ==== Sys2Proof/Machine/Timer.lean ====
section
/-! DEFINITION. The Count/Compare timer and interrupt service, the second and third part of a tick
(spec/60_exceptions.md R470, R475, R500 to R502; spec/00_scope.md R12). Both parameters are arguments, so that both
settings of TIMER_ON_IP7 are written down; the step passes the values of Config. -/

namespace Sys2Proof.Machine

/-- The timer step; `qualifies` says whether this tick counts (spec/60_exceptions.md R500, R502). -/
def timerStep (onIp7 qualifies : Bool) (s : State) : State :=
  let count := if qualifies then s.cp0.count + 1 else s.cp0.count
  let reached := qualifies && (count == s.cp0.compare)
  { s with
    ticks := s.ticks + 1
    timerCond := if reached && !onIp7 then true else s.timerCond
    cp0 := { s.cp0 with
      count := count
      cause := { s.cp0.cause with ip := if reached && onIp7 then s.cp0.cause.ip ||| 0x80 else s.cp0.cause.ip } } }

/-- Cause.IP6..IP2 follow the pins (spec/60_exceptions.md R470). -/
def ipWithPins (pins : BitVec 5) (ip : BitVec 8) : BitVec 8 := (ip &&& 0x83) ||| (pins.setWidth 8 <<< 2)

/-- The state with Cause.IP6..IP2 at the levels of the pins. -/
def latchPins (s : State) : State :=
  { s with cp0 := { s.cp0 with cause := { s.cp0.cause with ip := ipWithPins s.intPins s.cp0.cause.ip } } }

/-- The lines that are pending and enabled (spec/60_exceptions.md R470, R475). -/
def pendingLines (s : State) : BitVec 8 := s.cp0.cause.ip &&& statusIm s.cp0.status

/-- The one-shot timer condition asks for an interrupt (spec/60_exceptions.md R502). -/
def timerRequests (onIp7 : Bool) (s : State) : Bool :=
  !onIp7 && s.timerCond && (statusIm s.cp0.status).getLsbD 7

/-- ServicedLine: the lowest pending line, 7 for the one-shot timer condition (spec/60_exceptions.md R475). -/
def servicedLine (s : State) : Nat :=
  ((List.range 8).find? fun n => (pendingLines s).getLsbD n).getD 7

/-- An interrupt is serviced at the end of this tick (spec/60_exceptions.md R475). -/
def interruptDue (onIp7 : Bool) (s : State) : Bool :=
  statusIe s.cp0.status && !statusExl s.cp0.status && !statusErl s.cp0.status &&
    (pendingLines s != 0 || timerRequests onIp7 s)

/-- InterruptService (spec/60_exceptions.md R475). -/
def interruptService (onIp7 : Bool) (s : State) : State :=
  let t := latchPins s
  if interruptDue onIp7 t then
    let u := takeException .interrupt t
    if !onIp7 && servicedLine t == 7 then { u with timerCond := false } else u
  else t

/-- What follows the instruction step in a tick (spec/00_scope.md R12). -/
def afterInstruction (s : State) : State :=
  interruptService Config.timerOnIp7 (timerStep Config.timerOnIp7 (Config.countQualifies s.ticks) s)

/-- The rest of the tick, when the instruction step answered a next state. -/
def endTick (r : Result) : Result :=
  match r with
  | .next t => .next (afterInstruction t)
  | .fault f => .fault f
  | .refused q => .refused q

end Sys2Proof.Machine
end

