-- ==== Sys2Proof/Machine/Env.lean ====
section
/-! DEFINITION. The environment between ticks: pins, resets, controller input and the running signal processor
(spec/00_scope.md R11; spec/61_platform_devices.md R535, R568, R590; spec/70_reset_and_hazards.md R620 to R625). -/

namespace Sys2Proof.Machine

/-! ### Moves -/

/-- One analog axis: +50, -50 or 0 (spec/61_platform_devices.md R590). -/
def axis (plus minus : Bool) : BitVec 8 :=
  if plus && !minus then 50 else if minus && !plus then -50 else 0

/-- Push (spec/61_platform_devices.md R590). -/
def pushInput (slot : BitVec 2) (buttons : BitVec 16) (up down left right : Bool) (s : State) : State :=
  let l := s.latch[slot.toNat]'(slot.isLt)
  let new : Latch := { buttons := l.buttons ||| buttons, x := axis right left, y := axis up down }
  { s with latch := s.latch.set slot.toNat new slot.isLt }

/-- The bytes a running signal processor may change: its memories and populated RDRAM (spec/61_platform_devices.md R568). -/
def spMayWrite (p : PAddr) (s : State) : Bool :=
  match resolve p with
  | some (.spDmem, _) => true
  | some (.spImem, _) => true
  | some (.rdram, off) => decide (off < s.rdramSize)
  | _ => false

/-- A change by the running signal processor happens only while halt = 0 (spec/61_platform_devices.md R568; log 19). -/
def whenRunning (s t : State) : State := if s.spStatus.halt then s else t

/-- One move of the environment. -/
def applyMove (m : EnvMove) (s : State) : State :=
  match m with
  | .pins level => latchPins { s with intPins := level }
  | .coldReset => { s with coldResetPin := true }
  | .softReset => { s with softResetPin := true }
  | .nmi => { s with nmiPin := true }
  | .push slot buttons up down left right => pushInput slot buttons up down left right s
  | .spByte p b => whenRunning s (if spMayWrite p s then setMemByte p.toNat b s else s)
  | .spPc v => whenRunning s (setWriteSide .spPc 0 v s)
  | .spFlags f => whenRunning s { s with spStatus := f }
  | .spSemaphore b => whenRunning s { s with semaphore := b }
  | .spDma k v => whenRunning s (setWriteSide .sp k.toNat v s)

/-- The moves scheduled for this tick (log 15). -/
def applyInputs (s : State) : State :=
  match s.inputs with
  | [] => s
  | moves :: rest => moves.foldl (fun t m => applyMove m t) { s with inputs := rest }

/-! ### Resets -/

/-- The low word of free value n. -/
def free32 (n : Nat) : Word32 := (Config.free n).extractLsb' 0 32

/-- The register blocks after any reset: the signal processor halted, the semaphore 0, every slot free under its mask
(spec/61_platform_devices.md R535). -/
def resetBlocks (s : State) : State :=
  let n := s.draws
  spendDraws 44 { s with
    viRegs := Vector.ofFn fun i => free32 (n + i.val) &&& slotMask .vi i.val
    piRegs := Vector.ofFn fun i => free32 (n + 14 + i.val) &&& slotMask .pi i.val
    siRegs := Vector.ofFn fun i => free32 (n + 27 + i.val) &&& slotMask .si i.val
    spRegs := Vector.ofFn fun i => free32 (n + 34 + i.val) &&& slotMask .sp i.val
    spPcRegs := Vector.ofFn fun i => free32 (n + 42 + i.val) &&& slotMask .spPc i.val
    spStatus := SpStatus.reset
    semaphore := false }

/-- A page of free bits. -/
def freePage (n : Nat) : TlbPage :=
  { pfn := (Config.free n).extractLsb' 0 24, c := (Config.free n).extractLsb' 24 3
    d := (Config.free n).getLsbD 27, v := (Config.free n).getLsbD 28 }

/-- A TLB entry of free bits. -/
def freeEntry (n : Nat) : TlbEntry :=
  { mask := (Config.free n).extractLsb' 0 12, r := (Config.free n).extractLsb' 12 2
    vpn2 := (Config.free n).extractLsb' 14 27, asid := (Config.free n).extractLsb' 41 8
    g := (Config.free n).getLsbD 49, page0 := freePage (n + 1), page1 := freePage (n + 2) }

/-- The coprocessor 0 registers after a cold reset: what R620 fixes, the read-only registers, and free values
(spec/70_reset_and_hazards.md R620; spec/10_state.md R75). -/
def coldCp0 (n : Nat) (pins : BitVec 5) (c : Cp0) : Cp0 :=
  { index := { p := (Config.free n).getLsbD 6, index := (Config.free n).extractLsb' 0 6 }
    random := 31
    entryLo0 := { page := freePage (n + 1), g := (Config.free (n + 1)).getLsbD 29 }
    entryLo1 := { page := freePage (n + 2), g := (Config.free (n + 2)).getLsbD 29 }
    context := { pteBase := (Config.free (n + 3)).extractLsb' 23 41, badVpn2 := (Config.free (n + 3)).extractLsb' 0 19 }
    pageMask := (Config.free (n + 4)).extractLsb' 0 12
    wired := 0
    badVAddr := Config.free (n + 5)
    count := free32 (n + 6)
    entryHi := { r := (Config.free (n + 7)).extractLsb' 62 2, vpn2 := (Config.free (n + 7)).extractLsb' 0 27
                 asid := (Config.free (n + 7)).extractLsb' 32 8 }
    compare := free32 (n + 8)
    status := (free32 (n + 9) &&& 0xF707FFFB#32) ||| 0x00400004#32
    cause := { bd := (Config.free (n + 10)).getLsbD 31, ce := (Config.free (n + 10)).extractLsb' 28 2
               ip := ipWithPins pins ((Config.free (n + 10)).extractLsb' 8 8)
               excCode := (Config.free (n + 10)).extractLsb' 2 5 }
    epc := Config.free (n + 11)
    prid := c.prid
    config := Config.configReset
    llAddr := free32 (n + 12)
    watchLo := free32 (n + 13) &&& 0xFFFFFFFB
    watchHi := (Config.free (n + 14)).extractLsb' 0 4
    xcontext := { pteBase := (Config.free (n + 15)).extractLsb' 33 31, r := (Config.free (n + 15)).extractLsb' 31 2
                  badVpn2 := (Config.free (n + 15)).extractLsb' 0 27 }
    parityError := (Config.free (n + 16)).extractLsb' 0 8
    tagLo := free32 (n + 17) &&& 0x0FFFFFC0
    errorEpc := Config.free (n + 18) }

/-- Memory after a cold reset: RDRAM, the SP memories and PIF RAM are unspecified again, the images stay
(spec/70_reset_and_hazards.md R625). -/
def coldMemory (m : Memory) : Memory :=
  Memory.forget 0x1FC007C0 0x1FC007FF (Memory.forget 0x04000000 0x04001FFF (Memory.forget 0 0x03EFFFFF m))

/-- ColdResetEntry (spec/70_reset_and_hazards.md R620; log 17). -/
def coldResetEntry (s : State) : State :=
  let n := s.draws
  resetBlocks (spendDraws 256 { s with
    gpr := Vector.ofFn fun i => if i.val = 0 then 0 else Config.free (n + i.val)
    hi := Config.free (n + 32)
    lo := Config.free (n + 33)
    pc := 0xFFFFFFFFBFC00000
    delay := none
    fgr := Vector.ofFn fun i => Config.free (n + 34 + i.val)
    fgrLowFr := Vector.replicate 32 (statusFr (coldCp0 (n + 68) s.intPins s.cp0).status)
    fgrHighFr := Vector.replicate 32 (statusFr (coldCp0 (n + 68) s.intPins s.cp0).status)
    fcr31 := free32 (n + 66) &&& fcr31Mask
    llbit := (Config.free (n + 67)).getLsbD 0
    cp0 := coldCp0 (n + 68) s.intPins s.cp0
    tlb := Vector.ofFn fun i => freeEntry (n + 96 + 3 * i.val)
    timerCond := false
    mem := coldMemory s.mem
    latch := Vector.replicate 4 Latch.empty
    epoch := s.epoch + 1 })

/-- SoftResetEntry, for a soft reset and for NMI (spec/70_reset_and_hazards.md R622; spec/61_platform_devices.md R535). -/
def softResetEntry (s : State) : State :=
  resetBlocks { s with
    pc := 0xFFFFFFFFBFC00000
    delay := none
    cp0 := { s.cp0 with
      errorEpc := if s.delay.isSome then s.pc - 4 else s.pc
      status := (s.cp0.status &&& ~~~0x00200000#32) ||| 0x00500004#32 } }

/-- The reset inputs released again (log 16). -/
def releaseResets (s : State) : State :=
  { s with coldResetPin := false, softResetPin := false, nmiPin := false }

/-- A reset input acts before the instruction and overrides everything (spec/60_exceptions.md R477; log 16). It acts
after every other move of its gap, also after those made later than the input (DESIGN CHOICE, log 16). -/
def serviceResets (s : State) : State :=
  if s.coldResetPin then coldResetEntry (releaseResets s)
  else if s.softResetPin || s.nmiPin then softResetEntry (releaseResets s)
  else s

/-- What happens between ticks, before the next instruction step: all the moves of the gap, then the reset that one of
them asked for, so a controller push of that gap does not outlast a cold reset. The order of a reset against the other
moves of its gap is a DESIGN CHOICE (spec/00_scope.md R11; log 16). -/
def beginTick (s : State) : State := serviceResets (applyInputs s)

end Sys2Proof.Machine
end

