-- ==== Sys2Proof/Syntax.lean ====
section
/-! DEFINITION. The abstract syntax: one constructor for each row of spec/opcode_table.json.
The arguments of a constructor are the fields of its row in the order of the encoding (bit 31 first),
each at the exact width the encoding gives it (spec/30_encoding.md R171).
BREAK is the constructor brk because break is a word of Lean. -/

namespace Sys2Proof

/-- The 207 instructions of spec/opcode_table.json (spec/30_encoding.md R175 to R179). -/
inductive Instr where
  -- Loads and stores (spec/40_load_store.md)
  /-- R201 `LB` -/
  | lb (base : Reg) (rt : Reg) (offset : BitVec 16)
  /-- R202 `LBU` -/
  | lbu (base : Reg) (rt : Reg) (offset : BitVec 16)
  /-- R203 `LH` -/
  | lh (base : Reg) (rt : Reg) (offset : BitVec 16)
  /-- R204 `LHU` -/
  | lhu (base : Reg) (rt : Reg) (offset : BitVec 16)
  /-- R205 `LW` -/
  | lw (base : Reg) (rt : Reg) (offset : BitVec 16)
  /-- R206 `LWU` -/
  | lwu (base : Reg) (rt : Reg) (offset : BitVec 16)
  /-- R207 `LD` -/
  | ld (base : Reg) (rt : Reg) (offset : BitVec 16)
  /-- R208 `LWL` -/
  | lwl (base : Reg) (rt : Reg) (offset : BitVec 16)
  /-- R209 `LWR` -/
  | lwr (base : Reg) (rt : Reg) (offset : BitVec 16)
  /-- R210 `LDL` -/
  | ldl (base : Reg) (rt : Reg) (offset : BitVec 16)
  /-- R211 `LDR` -/
  | ldr (base : Reg) (rt : Reg) (offset : BitVec 16)
  /-- R212 `SB` -/
  | sb (base : Reg) (rt : Reg) (offset : BitVec 16)
  /-- R213 `SH` -/
  | sh (base : Reg) (rt : Reg) (offset : BitVec 16)
  /-- R214 `SW` -/
  | sw (base : Reg) (rt : Reg) (offset : BitVec 16)
  /-- R215 `SD` -/
  | sd (base : Reg) (rt : Reg) (offset : BitVec 16)
  /-- R216 `SWL` -/
  | swl (base : Reg) (rt : Reg) (offset : BitVec 16)
  /-- R217 `SWR` -/
  | swr (base : Reg) (rt : Reg) (offset : BitVec 16)
  /-- R218 `SDL` -/
  | sdl (base : Reg) (rt : Reg) (offset : BitVec 16)
  /-- R219 `SDR` -/
  | sdr (base : Reg) (rt : Reg) (offset : BitVec 16)
  /-- R230 `LL` -/
  | ll (base : Reg) (rt : Reg) (offset : BitVec 16)
  /-- R231 `LLD` -/
  | lld (base : Reg) (rt : Reg) (offset : BitVec 16)
  /-- R232 `SC` -/
  | sc (base : Reg) (rt : Reg) (offset : BitVec 16)
  /-- R233 `SCD` -/
  | scd (base : Reg) (rt : Reg) (offset : BitVec 16)
  -- Integer arithmetic, logic and shifts (spec/41_alu.md)
  /-- R241 `ADDI` -/
  | addi (rs : Reg) (rt : Reg) (imm : BitVec 16)
  /-- R242 `ADDIU` -/
  | addiu (rs : Reg) (rt : Reg) (imm : BitVec 16)
  /-- R243 `SLTI` -/
  | slti (rs : Reg) (rt : Reg) (imm : BitVec 16)
  /-- R244 `SLTIU` -/
  | sltiu (rs : Reg) (rt : Reg) (imm : BitVec 16)
  /-- R245 `ANDI` -/
  | andi (rs : Reg) (rt : Reg) (imm : BitVec 16)
  /-- R246 `ORI` -/
  | ori (rs : Reg) (rt : Reg) (imm : BitVec 16)
  /-- R247 `XORI` -/
  | xori (rs : Reg) (rt : Reg) (imm : BitVec 16)
  /-- R249 `DADDI` -/
  | daddi (rs : Reg) (rt : Reg) (imm : BitVec 16)
  /-- R250 `DADDIU` -/
  | daddiu (rs : Reg) (rt : Reg) (imm : BitVec 16)
  /-- R248 `LUI` -/
  | lui (rt : Reg) (imm : BitVec 16)
  /-- R251 `ADD` -/
  | add (rs : Reg) (rt : Reg) (rd : Reg)
  /-- R252 `ADDU` -/
  | addu (rs : Reg) (rt : Reg) (rd : Reg)
  /-- R253 `SUB` -/
  | sub (rs : Reg) (rt : Reg) (rd : Reg)
  /-- R254 `SUBU` -/
  | subu (rs : Reg) (rt : Reg) (rd : Reg)
  /-- R255 `AND` -/
  | and (rs : Reg) (rt : Reg) (rd : Reg)
  /-- R256 `OR` -/
  | or (rs : Reg) (rt : Reg) (rd : Reg)
  /-- R257 `XOR` -/
  | xor (rs : Reg) (rt : Reg) (rd : Reg)
  /-- R258 `NOR` -/
  | nor (rs : Reg) (rt : Reg) (rd : Reg)
  /-- R259 `SLT` -/
  | slt (rs : Reg) (rt : Reg) (rd : Reg)
  /-- R260 `SLTU` -/
  | sltu (rs : Reg) (rt : Reg) (rd : Reg)
  /-- R261 `DADD` -/
  | dadd (rs : Reg) (rt : Reg) (rd : Reg)
  /-- R262 `DADDU` -/
  | daddu (rs : Reg) (rt : Reg) (rd : Reg)
  /-- R263 `DSUB` -/
  | dsub (rs : Reg) (rt : Reg) (rd : Reg)
  /-- R264 `DSUBU` -/
  | dsubu (rs : Reg) (rt : Reg) (rd : Reg)
  /-- R268 `SLLV` -/
  | sllv (rs : Reg) (rt : Reg) (rd : Reg)
  /-- R269 `SRLV` -/
  | srlv (rs : Reg) (rt : Reg) (rd : Reg)
  /-- R270 `SRAV` -/
  | srav (rs : Reg) (rt : Reg) (rd : Reg)
  /-- R274 `DSLLV` -/
  | dsllv (rs : Reg) (rt : Reg) (rd : Reg)
  /-- R275 `DSRLV` -/
  | dsrlv (rs : Reg) (rt : Reg) (rd : Reg)
  /-- R276 `DSRAV` -/
  | dsrav (rs : Reg) (rt : Reg) (rd : Reg)
  /-- R265 `SLL` -/
  | sll (rt : Reg) (rd : Reg) (sa : BitVec 5)
  /-- R266 `SRL` -/
  | srl (rt : Reg) (rd : Reg) (sa : BitVec 5)
  /-- R267 `SRA` -/
  | sra (rt : Reg) (rd : Reg) (sa : BitVec 5)
  /-- R271 `DSLL` -/
  | dsll (rt : Reg) (rd : Reg) (sa : BitVec 5)
  /-- R272 `DSRL` -/
  | dsrl (rt : Reg) (rd : Reg) (sa : BitVec 5)
  /-- R273 `DSRA` -/
  | dsra (rt : Reg) (rd : Reg) (sa : BitVec 5)
  /-- R277 `DSLL32` -/
  | dsll32 (rt : Reg) (rd : Reg) (sa : BitVec 5)
  /-- R278 `DSRL32` -/
  | dsrl32 (rt : Reg) (rd : Reg) (sa : BitVec 5)
  /-- R279 `DSRA32` -/
  | dsra32 (rt : Reg) (rd : Reg) (sa : BitVec 5)
  -- Multiply, divide, HI/LO moves (spec/42_muldiv.md)
  /-- R292 `MULT` -/
  | mult (rs : Reg) (rt : Reg)
  /-- R293 `MULTU` -/
  | multu (rs : Reg) (rt : Reg)
  /-- R294 `DMULT` -/
  | dmult (rs : Reg) (rt : Reg)
  /-- R295 `DMULTU` -/
  | dmultu (rs : Reg) (rt : Reg)
  /-- R296 `DIV` -/
  | div (rs : Reg) (rt : Reg)
  /-- R297 `DIVU` -/
  | divu (rs : Reg) (rt : Reg)
  /-- R298 `DDIV` -/
  | ddiv (rs : Reg) (rt : Reg)
  /-- R299 `DDIVU` -/
  | ddivu (rs : Reg) (rt : Reg)
  /-- R300 `MFHI` -/
  | mfhi (rd : Reg)
  /-- R301 `MTHI` -/
  | mthi (rs : Reg)
  /-- R302 `MFLO` -/
  | mflo (rd : Reg)
  /-- R303 `MTLO` -/
  | mtlo (rs : Reg)
  -- Jumps and branches (spec/43_branch_jump.md)
  /-- R312 `J` -/
  | j (target : BitVec 26)
  /-- R313 `JAL` -/
  | jal (target : BitVec 26)
  /-- R314 `JR` -/
  | jr (rs : Reg)
  /-- R315 `JALR` -/
  | jalr (rs : Reg) (rd : Reg)
  /-- R316 `BEQ` -/
  | beq (rs : Reg) (rt : Reg) (offset : BitVec 16)
  /-- R317 `BNE` -/
  | bne (rs : Reg) (rt : Reg) (offset : BitVec 16)
  /-- R320 `BEQL` -/
  | beql (rs : Reg) (rt : Reg) (offset : BitVec 16)
  /-- R321 `BNEL` -/
  | bnel (rs : Reg) (rt : Reg) (offset : BitVec 16)
  /-- R318 `BLEZ` -/
  | blez (rs : Reg) (offset : BitVec 16)
  /-- R319 `BGTZ` -/
  | bgtz (rs : Reg) (offset : BitVec 16)
  /-- R322 `BLEZL` -/
  | blezl (rs : Reg) (offset : BitVec 16)
  /-- R323 `BGTZL` -/
  | bgtzl (rs : Reg) (offset : BitVec 16)
  /-- R324 `BLTZ` -/
  | bltz (rs : Reg) (offset : BitVec 16)
  /-- R325 `BGEZ` -/
  | bgez (rs : Reg) (offset : BitVec 16)
  /-- R326 `BLTZAL` -/
  | bltzal (rs : Reg) (offset : BitVec 16)
  /-- R327 `BGEZAL` -/
  | bgezal (rs : Reg) (offset : BitVec 16)
  /-- R328 `BLTZALL` -/
  | bltzall (rs : Reg) (offset : BitVec 16)
  /-- R329 `BGEZALL` -/
  | bgezall (rs : Reg) (offset : BitVec 16)
  /-- R330 `BLTZL` -/
  | bltzl (rs : Reg) (offset : BitVec 16)
  /-- R331 `BGEZL` -/
  | bgezl (rs : Reg) (offset : BitVec 16)
  -- Traps, system call, SYNC, CACHE (spec/44_trap_system.md)
  /-- R341 `TGE` -/
  | tge (rs : Reg) (rt : Reg) (code : BitVec 10)
  /-- R342 `TGEU` -/
  | tgeu (rs : Reg) (rt : Reg) (code : BitVec 10)
  /-- R343 `TLT` -/
  | tlt (rs : Reg) (rt : Reg) (code : BitVec 10)
  /-- R344 `TLTU` -/
  | tltu (rs : Reg) (rt : Reg) (code : BitVec 10)
  /-- R345 `TEQ` -/
  | teq (rs : Reg) (rt : Reg) (code : BitVec 10)
  /-- R346 `TNE` -/
  | tne (rs : Reg) (rt : Reg) (code : BitVec 10)
  /-- R347 `TGEI` -/
  | tgei (rs : Reg) (imm : BitVec 16)
  /-- R348 `TGEIU` -/
  | tgeiu (rs : Reg) (imm : BitVec 16)
  /-- R349 `TLTI` -/
  | tlti (rs : Reg) (imm : BitVec 16)
  /-- R350 `TLTIU` -/
  | tltiu (rs : Reg) (imm : BitVec 16)
  /-- R351 `TEQI` -/
  | teqi (rs : Reg) (imm : BitVec 16)
  /-- R352 `TNEI` -/
  | tnei (rs : Reg) (imm : BitVec 16)
  /-- R353 `SYSCALL` -/
  | syscall (code : BitVec 20)
  /-- R354 `BREAK` -/
  | brk (code : BitVec 20)
  /-- R356 `SYNC` -/
  | sync
  /-- R357 `CACHE` -/
  | cache (base : Reg) (op : BitVec 5) (offset : BitVec 16)
  -- Coprocessor 0 (spec/45_cop0.md)
  /-- R366 `MFC0` -/
  | mfc0 (rt : Reg) (rd : Reg)
  /-- R367 `MTC0` -/
  | mtc0 (rt : Reg) (rd : Reg)
  /-- R368 `DMFC0` -/
  | dmfc0 (rt : Reg) (rd : Reg)
  /-- R369 `DMTC0` -/
  | dmtc0 (rt : Reg) (rd : Reg)
  /-- R370 `TLBR` -/
  | tlbr
  /-- R371 `TLBWI` -/
  | tlbwi
  /-- R372 `TLBWR` -/
  | tlbwr
  /-- R373 `TLBP` -/
  | tlbp
  /-- R374 `ERET` -/
  | eret
  -- FPU transfers and branches (spec/46_fpu.md)
  /-- R397 `LWC1` -/
  | lwc1 (base : Reg) (ft : Reg) (offset : BitVec 16)
  /-- R398 `LDC1` -/
  | ldc1 (base : Reg) (ft : Reg) (offset : BitVec 16)
  /-- R399 `SWC1` -/
  | swc1 (base : Reg) (ft : Reg) (offset : BitVec 16)
  /-- R400 `SDC1` -/
  | sdc1 (base : Reg) (ft : Reg) (offset : BitVec 16)
  /-- R401 `MFC1` -/
  | mfc1 (rt : Reg) (fs : Reg)
  /-- R402 `DMFC1` -/
  | dmfc1 (rt : Reg) (fs : Reg)
  /-- R403 `CFC1` -/
  | cfc1 (rt : Reg) (fs : Reg)
  /-- R404 `CTC1` -/
  | ctc1 (rt : Reg) (fs : Reg)
  /-- R405 `MTC1` -/
  | mtc1 (rt : Reg) (fs : Reg)
  /-- R406 `DMTC1` -/
  | dmtc1 (rt : Reg) (fs : Reg)
  /-- R410 `BC1F` -/
  | bc1f (offset : BitVec 16)
  /-- R411 `BC1T` -/
  | bc1t (offset : BitVec 16)
  /-- R412 `BC1FL` -/
  | bc1fl (offset : BitVec 16)
  /-- R413 `BC1TL` -/
  | bc1tl (offset : BitVec 16)
  -- FPU arithmetic, conversion, compare (spec/47_fpu_arith.md)
  /-- R415 `ADD.S` -/
  | addS (ft : Reg) (fs : Reg) (fd : Reg)
  /-- R415 `ADD.D` -/
  | addD (ft : Reg) (fs : Reg) (fd : Reg)
  /-- R416 `SUB.S` -/
  | subS (ft : Reg) (fs : Reg) (fd : Reg)
  /-- R416 `SUB.D` -/
  | subD (ft : Reg) (fs : Reg) (fd : Reg)
  /-- R417 `MUL.S` -/
  | mulS (ft : Reg) (fs : Reg) (fd : Reg)
  /-- R417 `MUL.D` -/
  | mulD (ft : Reg) (fs : Reg) (fd : Reg)
  /-- R418 `DIV.S` -/
  | divS (ft : Reg) (fs : Reg) (fd : Reg)
  /-- R418 `DIV.D` -/
  | divD (ft : Reg) (fs : Reg) (fd : Reg)
  /-- R419 `SQRT.S` -/
  | sqrtS (fs : Reg) (fd : Reg)
  /-- R419 `SQRT.D` -/
  | sqrtD (fs : Reg) (fd : Reg)
  /-- R420 `ABS.S` -/
  | absS (fs : Reg) (fd : Reg)
  /-- R420 `ABS.D` -/
  | absD (fs : Reg) (fd : Reg)
  /-- R421 `MOV.S` -/
  | movS (fs : Reg) (fd : Reg)
  /-- R421 `MOV.D` -/
  | movD (fs : Reg) (fd : Reg)
  /-- R422 `NEG.S` -/
  | negS (fs : Reg) (fd : Reg)
  /-- R422 `NEG.D` -/
  | negD (fs : Reg) (fd : Reg)
  /-- R424 `ROUND.L.S` -/
  | roundLS (fs : Reg) (fd : Reg)
  /-- R424 `ROUND.L.D` -/
  | roundLD (fs : Reg) (fd : Reg)
  /-- R425 `TRUNC.L.S` -/
  | truncLS (fs : Reg) (fd : Reg)
  /-- R425 `TRUNC.L.D` -/
  | truncLD (fs : Reg) (fd : Reg)
  /-- R426 `CEIL.L.S` -/
  | ceilLS (fs : Reg) (fd : Reg)
  /-- R426 `CEIL.L.D` -/
  | ceilLD (fs : Reg) (fd : Reg)
  /-- R427 `FLOOR.L.S` -/
  | floorLS (fs : Reg) (fd : Reg)
  /-- R427 `FLOOR.L.D` -/
  | floorLD (fs : Reg) (fd : Reg)
  /-- R428 `ROUND.W.S` -/
  | roundWS (fs : Reg) (fd : Reg)
  /-- R428 `ROUND.W.D` -/
  | roundWD (fs : Reg) (fd : Reg)
  /-- R429 `TRUNC.W.S` -/
  | truncWS (fs : Reg) (fd : Reg)
  /-- R429 `TRUNC.W.D` -/
  | truncWD (fs : Reg) (fd : Reg)
  /-- R430 `CEIL.W.S` -/
  | ceilWS (fs : Reg) (fd : Reg)
  /-- R430 `CEIL.W.D` -/
  | ceilWD (fs : Reg) (fd : Reg)
  /-- R431 `FLOOR.W.S` -/
  | floorWS (fs : Reg) (fd : Reg)
  /-- R431 `FLOOR.W.D` -/
  | floorWD (fs : Reg) (fd : Reg)
  /-- R432 `CVT.S.D` -/
  | cvtSD (fs : Reg) (fd : Reg)
  /-- R432 `CVT.S.W` -/
  | cvtSW (fs : Reg) (fd : Reg)
  /-- R432 `CVT.S.L` -/
  | cvtSL (fs : Reg) (fd : Reg)
  /-- R433 `CVT.D.S` -/
  | cvtDS (fs : Reg) (fd : Reg)
  /-- R433 `CVT.D.W` -/
  | cvtDW (fs : Reg) (fd : Reg)
  /-- R433 `CVT.D.L` -/
  | cvtDL (fs : Reg) (fd : Reg)
  /-- R434 `CVT.W.S` -/
  | cvtWS (fs : Reg) (fd : Reg)
  /-- R434 `CVT.W.D` -/
  | cvtWD (fs : Reg) (fd : Reg)
  /-- R436 `CVT.L.S` -/
  | cvtLS (fs : Reg) (fd : Reg)
  /-- R436 `CVT.L.D` -/
  | cvtLD (fs : Reg) (fd : Reg)
  /-- R435 `C.F.S` -/
  | cFS (ft : Reg) (fs : Reg)
  /-- R435 `C.UN.S` -/
  | cUnS (ft : Reg) (fs : Reg)
  /-- R435 `C.EQ.S` -/
  | cEqS (ft : Reg) (fs : Reg)
  /-- R435 `C.UEQ.S` -/
  | cUeqS (ft : Reg) (fs : Reg)
  /-- R435 `C.OLT.S` -/
  | cOltS (ft : Reg) (fs : Reg)
  /-- R435 `C.ULT.S` -/
  | cUltS (ft : Reg) (fs : Reg)
  /-- R435 `C.OLE.S` -/
  | cOleS (ft : Reg) (fs : Reg)
  /-- R435 `C.ULE.S` -/
  | cUleS (ft : Reg) (fs : Reg)
  /-- R435 `C.SF.S` -/
  | cSfS (ft : Reg) (fs : Reg)
  /-- R435 `C.NGLE.S` -/
  | cNgleS (ft : Reg) (fs : Reg)
  /-- R435 `C.SEQ.S` -/
  | cSeqS (ft : Reg) (fs : Reg)
  /-- R435 `C.NGL.S` -/
  | cNglS (ft : Reg) (fs : Reg)
  /-- R435 `C.LT.S` -/
  | cLtS (ft : Reg) (fs : Reg)
  /-- R435 `C.NGE.S` -/
  | cNgeS (ft : Reg) (fs : Reg)
  /-- R435 `C.LE.S` -/
  | cLeS (ft : Reg) (fs : Reg)
  /-- R435 `C.NGT.S` -/
  | cNgtS (ft : Reg) (fs : Reg)
  /-- R435 `C.F.D` -/
  | cFD (ft : Reg) (fs : Reg)
  /-- R435 `C.UN.D` -/
  | cUnD (ft : Reg) (fs : Reg)
  /-- R435 `C.EQ.D` -/
  | cEqD (ft : Reg) (fs : Reg)
  /-- R435 `C.UEQ.D` -/
  | cUeqD (ft : Reg) (fs : Reg)
  /-- R435 `C.OLT.D` -/
  | cOltD (ft : Reg) (fs : Reg)
  /-- R435 `C.ULT.D` -/
  | cUltD (ft : Reg) (fs : Reg)
  /-- R435 `C.OLE.D` -/
  | cOleD (ft : Reg) (fs : Reg)
  /-- R435 `C.ULE.D` -/
  | cUleD (ft : Reg) (fs : Reg)
  /-- R435 `C.SF.D` -/
  | cSfD (ft : Reg) (fs : Reg)
  /-- R435 `C.NGLE.D` -/
  | cNgleD (ft : Reg) (fs : Reg)
  /-- R435 `C.SEQ.D` -/
  | cSeqD (ft : Reg) (fs : Reg)
  /-- R435 `C.NGL.D` -/
  | cNglD (ft : Reg) (fs : Reg)
  /-- R435 `C.LT.D` -/
  | cLtD (ft : Reg) (fs : Reg)
  /-- R435 `C.NGE.D` -/
  | cNgeD (ft : Reg) (fs : Reg)
  /-- R435 `C.LE.D` -/
  | cLeD (ft : Reg) (fs : Reg)
  /-- R435 `C.NGT.D` -/
  | cNgtD (ft : Reg) (fs : Reg)
deriving DecidableEq, Repr

end Sys2Proof
end

