-- ==== Sys2Proof/Decode.lean ====
section
/-! DEFINITION. The decoder, total on every word (spec/30_encoding.md R175 to R183), and after it the encoder.
The decoder reads the fields of a word once and turns them into a constructor of `Instr`.
It rejects by name: reserved encodings, coprocessor 2, unimplemented floating-point pairs and
should-be-zero bits each have their own answer, because each has its own effect (R180 to R184, R395). -/

namespace Sys2Proof

/-- What a fetched word is (spec/30_encoding.md R183). -/
inductive Decoded where
  /-- The word selects this instruction and every should-be-zero bit is 0. -/
  | instr (i : Instr)
  /-- The word selects this instruction and has a 1 in a should-be-zero position (R182). -/
  | shouldBeZero (i : Instr)
  /-- A reserved encoding of no coprocessor: Reserved Instruction (R181). -/
  | reserved
  /-- A reserved sub-opcode of coprocessor `unit`: the usability test comes first (R181, R184). -/
  | reservedCop (unit : BitVec 2)
  /-- Opcode 18, the absent coprocessor 2 (R180). -/
  | cop2
  /-- A format and funct the floating-point unit does not implement (spec/46_fpu.md R395). -/
  | fpUnimplemented
deriving DecidableEq, Repr

/-- bits 31:26 (R171) -/
def opF (w : Word32) : BitVec 6 := w.extractLsb' 26 6
/-- bits 25:21: rs, base, fmt or sub-opcode (R171) -/
def rsF (w : Word32) : BitVec 5 := w.extractLsb' 21 5
/-- bits 20:16: rt, ft or sub-opcode (R171) -/
def rtF (w : Word32) : BitVec 5 := w.extractLsb' 16 5
/-- bits 15:11: rd or fs (R171) -/
def rdF (w : Word32) : BitVec 5 := w.extractLsb' 11 5
/-- bits 10:6: sa or fd (R171) -/
def saF (w : Word32) : BitVec 5 := w.extractLsb' 6 5
/-- bits 5:0: funct (R171) -/
def fnF (w : Word32) : BitVec 6 := w.extractLsb' 0 6
/-- bits 15:0: immediate or offset (R171) -/
def immF (w : Word32) : BitVec 16 := w.extractLsb' 0 16
/-- bits 25:0: instr_index (R171) -/
def targetF (w : Word32) : BitVec 26 := w.extractLsb' 0 26
/-- bits 25:6: the code of SYSCALL and BREAK (R171) -/
def codeF (w : Word32) : BitVec 20 := w.extractLsb' 6 20
/-- bits 15:6: the code of a register trap (R171) -/
def trapCodeF (w : Word32) : BitVec 10 := w.extractLsb' 6 10
/-- bits 20:18, should be zero in the FB format (R179) -/
def condHighF (w : Word32) : BitVec 3 := w.extractLsb' 18 3
/-- bits 17:16, the nd and tf bits of the FB format (R179) -/
def condLowF (w : Word32) : BitVec 2 := w.extractLsb' 16 2
/-- bits 24:6, should be zero in the CO format (R178) -/
def coZeroF (w : Word32) : BitVec 19 := w.extractLsb' 6 19

/-- An instruction of a row that has should-be-zero bits: `zero` says that they all are 0 (R182). -/
def zeroed (zero : Bool) (i : Instr) : Decoded :=
  if zero then .instr i else .shouldBeZero i

/-- SPECIAL, opcode 0, by funct (R176). -/
def decodeSpecial (w : Word32) : Decoded :=
  match (fnF w).toNat with
  | 0 => zeroed (rsF w == 0) (.sll (rtF w) (rdF w) (saF w))
  | 2 => zeroed (rsF w == 0) (.srl (rtF w) (rdF w) (saF w))
  | 3 => zeroed (rsF w == 0) (.sra (rtF w) (rdF w) (saF w))
  | 4 => zeroed (saF w == 0) (.sllv (rsF w) (rtF w) (rdF w))
  | 6 => zeroed (saF w == 0) (.srlv (rsF w) (rtF w) (rdF w))
  | 7 => zeroed (saF w == 0) (.srav (rsF w) (rtF w) (rdF w))
  | 8 => zeroed (rtF w == 0 && rdF w == 0 && saF w == 0) (.jr (rsF w))
  | 9 => zeroed (rtF w == 0 && saF w == 0) (.jalr (rsF w) (rdF w))
  | 12 => .instr (.syscall (codeF w))
  | 13 => .instr (.brk (codeF w))
  | 15 => zeroed (codeF w == 0) .sync
  | 16 => zeroed (rsF w == 0 && rtF w == 0 && saF w == 0) (.mfhi (rdF w))
  | 17 => zeroed (rtF w == 0 && rdF w == 0 && saF w == 0) (.mthi (rsF w))
  | 18 => zeroed (rsF w == 0 && rtF w == 0 && saF w == 0) (.mflo (rdF w))
  | 19 => zeroed (rtF w == 0 && rdF w == 0 && saF w == 0) (.mtlo (rsF w))
  | 20 => zeroed (saF w == 0) (.dsllv (rsF w) (rtF w) (rdF w))
  | 22 => zeroed (saF w == 0) (.dsrlv (rsF w) (rtF w) (rdF w))
  | 23 => zeroed (saF w == 0) (.dsrav (rsF w) (rtF w) (rdF w))
  | 24 => zeroed (rdF w == 0 && saF w == 0) (.mult (rsF w) (rtF w))
  | 25 => zeroed (rdF w == 0 && saF w == 0) (.multu (rsF w) (rtF w))
  | 26 => zeroed (rdF w == 0 && saF w == 0) (.div (rsF w) (rtF w))
  | 27 => zeroed (rdF w == 0 && saF w == 0) (.divu (rsF w) (rtF w))
  | 28 => zeroed (rdF w == 0 && saF w == 0) (.dmult (rsF w) (rtF w))
  | 29 => zeroed (rdF w == 0 && saF w == 0) (.dmultu (rsF w) (rtF w))
  | 30 => zeroed (rdF w == 0 && saF w == 0) (.ddiv (rsF w) (rtF w))
  | 31 => zeroed (rdF w == 0 && saF w == 0) (.ddivu (rsF w) (rtF w))
  | 32 => zeroed (saF w == 0) (.add (rsF w) (rtF w) (rdF w))
  | 33 => zeroed (saF w == 0) (.addu (rsF w) (rtF w) (rdF w))
  | 34 => zeroed (saF w == 0) (.sub (rsF w) (rtF w) (rdF w))
  | 35 => zeroed (saF w == 0) (.subu (rsF w) (rtF w) (rdF w))
  | 36 => zeroed (saF w == 0) (.and (rsF w) (rtF w) (rdF w))
  | 37 => zeroed (saF w == 0) (.or (rsF w) (rtF w) (rdF w))
  | 38 => zeroed (saF w == 0) (.xor (rsF w) (rtF w) (rdF w))
  | 39 => zeroed (saF w == 0) (.nor (rsF w) (rtF w) (rdF w))
  | 42 => zeroed (saF w == 0) (.slt (rsF w) (rtF w) (rdF w))
  | 43 => zeroed (saF w == 0) (.sltu (rsF w) (rtF w) (rdF w))
  | 44 => zeroed (saF w == 0) (.dadd (rsF w) (rtF w) (rdF w))
  | 45 => zeroed (saF w == 0) (.daddu (rsF w) (rtF w) (rdF w))
  | 46 => zeroed (saF w == 0) (.dsub (rsF w) (rtF w) (rdF w))
  | 47 => zeroed (saF w == 0) (.dsubu (rsF w) (rtF w) (rdF w))
  | 48 => .instr (.tge (rsF w) (rtF w) (trapCodeF w))
  | 49 => .instr (.tgeu (rsF w) (rtF w) (trapCodeF w))
  | 50 => .instr (.tlt (rsF w) (rtF w) (trapCodeF w))
  | 51 => .instr (.tltu (rsF w) (rtF w) (trapCodeF w))
  | 52 => .instr (.teq (rsF w) (rtF w) (trapCodeF w))
  | 54 => .instr (.tne (rsF w) (rtF w) (trapCodeF w))
  | 56 => zeroed (rsF w == 0) (.dsll (rtF w) (rdF w) (saF w))
  | 58 => zeroed (rsF w == 0) (.dsrl (rtF w) (rdF w) (saF w))
  | 59 => zeroed (rsF w == 0) (.dsra (rtF w) (rdF w) (saF w))
  | 60 => zeroed (rsF w == 0) (.dsll32 (rtF w) (rdF w) (saF w))
  | 62 => zeroed (rsF w == 0) (.dsrl32 (rtF w) (rdF w) (saF w))
  | 63 => zeroed (rsF w == 0) (.dsra32 (rtF w) (rdF w) (saF w))
  | _ => .reserved

/-- REGIMM, opcode 1, by bits 20:16 (R177). -/
def decodeRegimm (w : Word32) : Decoded :=
  match (rtF w).toNat with
  | 0 => .instr (.bltz (rsF w) (immF w))
  | 1 => .instr (.bgez (rsF w) (immF w))
  | 2 => .instr (.bltzl (rsF w) (immF w))
  | 3 => .instr (.bgezl (rsF w) (immF w))
  | 8 => .instr (.tgei (rsF w) (immF w))
  | 9 => .instr (.tgeiu (rsF w) (immF w))
  | 10 => .instr (.tlti (rsF w) (immF w))
  | 11 => .instr (.tltiu (rsF w) (immF w))
  | 12 => .instr (.teqi (rsF w) (immF w))
  | 14 => .instr (.tnei (rsF w) (immF w))
  | 16 => .instr (.bltzal (rsF w) (immF w))
  | 17 => .instr (.bgezal (rsF w) (immF w))
  | 18 => .instr (.bltzall (rsF w) (immF w))
  | 19 => .instr (.bgezall (rsF w) (immF w))
  | _ => .reserved

/-- The CO format of COP0, by funct (R178). -/
def decodeCo (w : Word32) : Decoded :=
  match (fnF w).toNat with
  | 1 => zeroed (coZeroF w == 0) .tlbr
  | 2 => zeroed (coZeroF w == 0) .tlbwi
  | 6 => zeroed (coZeroF w == 0) .tlbwr
  | 8 => zeroed (coZeroF w == 0) .tlbp
  | 24 => zeroed (coZeroF w == 0) .eret
  | _ => .reservedCop 0

/-- COP0, opcode 16, by bits 25:21; 16 to 31 is the CO format (R178). -/
def decodeCop0 (w : Word32) : Decoded :=
  if 16 ≤ (rsF w).toNat then decodeCo w else
  match (rsF w).toNat with
  | 0 => zeroed (saF w == 0 && fnF w == 0) (.mfc0 (rtF w) (rdF w))
  | 1 => zeroed (saF w == 0 && fnF w == 0) (.dmfc0 (rtF w) (rdF w))
  | 4 => zeroed (saF w == 0 && fnF w == 0) (.mtc0 (rtF w) (rdF w))
  | 5 => zeroed (saF w == 0 && fnF w == 0) (.dmtc0 (rtF w) (rdF w))
  | _ => .reservedCop 0

/-- BC1, sub-opcode 8 of COP1, by bits 17:16 (R179). -/
def decodeBc1 (w : Word32) : Decoded :=
  match (condLowF w).toNat with
  | 0 => zeroed (condHighF w == 0) (.bc1f (immF w))
  | 1 => zeroed (condHighF w == 0) (.bc1t (immF w))
  | 2 => zeroed (condHighF w == 0) (.bc1fl (immF w))
  | _ => zeroed (condHighF w == 0) (.bc1tl (immF w))

/-- The FR format with fmt 16 (single), by funct (R179, R395). -/
def decodeFpS (w : Word32) : Decoded :=
  match (fnF w).toNat with
  | 0 => .instr (.addS (rtF w) (rdF w) (saF w))
  | 1 => .instr (.subS (rtF w) (rdF w) (saF w))
  | 2 => .instr (.mulS (rtF w) (rdF w) (saF w))
  | 3 => .instr (.divS (rtF w) (rdF w) (saF w))
  | 4 => zeroed (rtF w == 0) (.sqrtS (rdF w) (saF w))
  | 5 => zeroed (rtF w == 0) (.absS (rdF w) (saF w))
  | 6 => zeroed (rtF w == 0) (.movS (rdF w) (saF w))
  | 7 => zeroed (rtF w == 0) (.negS (rdF w) (saF w))
  | 8 => zeroed (rtF w == 0) (.roundLS (rdF w) (saF w))
  | 9 => zeroed (rtF w == 0) (.truncLS (rdF w) (saF w))
  | 10 => zeroed (rtF w == 0) (.ceilLS (rdF w) (saF w))
  | 11 => zeroed (rtF w == 0) (.floorLS (rdF w) (saF w))
  | 12 => zeroed (rtF w == 0) (.roundWS (rdF w) (saF w))
  | 13 => zeroed (rtF w == 0) (.truncWS (rdF w) (saF w))
  | 14 => zeroed (rtF w == 0) (.ceilWS (rdF w) (saF w))
  | 15 => zeroed (rtF w == 0) (.floorWS (rdF w) (saF w))
  | 33 => zeroed (rtF w == 0) (.cvtDS (rdF w) (saF w))
  | 36 => zeroed (rtF w == 0) (.cvtWS (rdF w) (saF w))
  | 37 => zeroed (rtF w == 0) (.cvtLS (rdF w) (saF w))
  | 48 => zeroed (saF w == 0) (.cFS (rtF w) (rdF w))
  | 49 => zeroed (saF w == 0) (.cUnS (rtF w) (rdF w))
  | 50 => zeroed (saF w == 0) (.cEqS (rtF w) (rdF w))
  | 51 => zeroed (saF w == 0) (.cUeqS (rtF w) (rdF w))
  | 52 => zeroed (saF w == 0) (.cOltS (rtF w) (rdF w))
  | 53 => zeroed (saF w == 0) (.cUltS (rtF w) (rdF w))
  | 54 => zeroed (saF w == 0) (.cOleS (rtF w) (rdF w))
  | 55 => zeroed (saF w == 0) (.cUleS (rtF w) (rdF w))
  | 56 => zeroed (saF w == 0) (.cSfS (rtF w) (rdF w))
  | 57 => zeroed (saF w == 0) (.cNgleS (rtF w) (rdF w))
  | 58 => zeroed (saF w == 0) (.cSeqS (rtF w) (rdF w))
  | 59 => zeroed (saF w == 0) (.cNglS (rtF w) (rdF w))
  | 60 => zeroed (saF w == 0) (.cLtS (rtF w) (rdF w))
  | 61 => zeroed (saF w == 0) (.cNgeS (rtF w) (rdF w))
  | 62 => zeroed (saF w == 0) (.cLeS (rtF w) (rdF w))
  | 63 => zeroed (saF w == 0) (.cNgtS (rtF w) (rdF w))
  | _ => .fpUnimplemented

/-- The FR format with fmt 17 (double), by funct (R179, R395). -/
def decodeFpD (w : Word32) : Decoded :=
  match (fnF w).toNat with
  | 0 => .instr (.addD (rtF w) (rdF w) (saF w))
  | 1 => .instr (.subD (rtF w) (rdF w) (saF w))
  | 2 => .instr (.mulD (rtF w) (rdF w) (saF w))
  | 3 => .instr (.divD (rtF w) (rdF w) (saF w))
  | 4 => zeroed (rtF w == 0) (.sqrtD (rdF w) (saF w))
  | 5 => zeroed (rtF w == 0) (.absD (rdF w) (saF w))
  | 6 => zeroed (rtF w == 0) (.movD (rdF w) (saF w))
  | 7 => zeroed (rtF w == 0) (.negD (rdF w) (saF w))
  | 8 => zeroed (rtF w == 0) (.roundLD (rdF w) (saF w))
  | 9 => zeroed (rtF w == 0) (.truncLD (rdF w) (saF w))
  | 10 => zeroed (rtF w == 0) (.ceilLD (rdF w) (saF w))
  | 11 => zeroed (rtF w == 0) (.floorLD (rdF w) (saF w))
  | 12 => zeroed (rtF w == 0) (.roundWD (rdF w) (saF w))
  | 13 => zeroed (rtF w == 0) (.truncWD (rdF w) (saF w))
  | 14 => zeroed (rtF w == 0) (.ceilWD (rdF w) (saF w))
  | 15 => zeroed (rtF w == 0) (.floorWD (rdF w) (saF w))
  | 32 => zeroed (rtF w == 0) (.cvtSD (rdF w) (saF w))
  | 36 => zeroed (rtF w == 0) (.cvtWD (rdF w) (saF w))
  | 37 => zeroed (rtF w == 0) (.cvtLD (rdF w) (saF w))
  | 48 => zeroed (saF w == 0) (.cFD (rtF w) (rdF w))
  | 49 => zeroed (saF w == 0) (.cUnD (rtF w) (rdF w))
  | 50 => zeroed (saF w == 0) (.cEqD (rtF w) (rdF w))
  | 51 => zeroed (saF w == 0) (.cUeqD (rtF w) (rdF w))
  | 52 => zeroed (saF w == 0) (.cOltD (rtF w) (rdF w))
  | 53 => zeroed (saF w == 0) (.cUltD (rtF w) (rdF w))
  | 54 => zeroed (saF w == 0) (.cOleD (rtF w) (rdF w))
  | 55 => zeroed (saF w == 0) (.cUleD (rtF w) (rdF w))
  | 56 => zeroed (saF w == 0) (.cSfD (rtF w) (rdF w))
  | 57 => zeroed (saF w == 0) (.cNgleD (rtF w) (rdF w))
  | 58 => zeroed (saF w == 0) (.cSeqD (rtF w) (rdF w))
  | 59 => zeroed (saF w == 0) (.cNglD (rtF w) (rdF w))
  | 60 => zeroed (saF w == 0) (.cLtD (rtF w) (rdF w))
  | 61 => zeroed (saF w == 0) (.cNgeD (rtF w) (rdF w))
  | 62 => zeroed (saF w == 0) (.cLeD (rtF w) (rdF w))
  | 63 => zeroed (saF w == 0) (.cNgtD (rtF w) (rdF w))
  | _ => .fpUnimplemented

/-- The FR format with fmt 20 (32-bit fixed point), by funct (R179, R395). -/
def decodeFpW (w : Word32) : Decoded :=
  match (fnF w).toNat with
  | 32 => zeroed (rtF w == 0) (.cvtSW (rdF w) (saF w))
  | 33 => zeroed (rtF w == 0) (.cvtDW (rdF w) (saF w))
  | _ => .fpUnimplemented

/-- The FR format with fmt 21 (64-bit fixed point), by funct (R179, R395). -/
def decodeFpL (w : Word32) : Decoded :=
  match (fnF w).toNat with
  | 32 => zeroed (rtF w == 0) (.cvtSL (rdF w) (saF w))
  | 33 => zeroed (rtF w == 0) (.cvtDL (rdF w) (saF w))
  | _ => .fpUnimplemented

/-- COP1, opcode 17, by bits 25:21 (R179). -/
def decodeCop1 (w : Word32) : Decoded :=
  match (rsF w).toNat with
  | 0 => zeroed (saF w == 0 && fnF w == 0) (.mfc1 (rtF w) (rdF w))
  | 1 => zeroed (saF w == 0 && fnF w == 0) (.dmfc1 (rtF w) (rdF w))
  | 2 => zeroed (saF w == 0 && fnF w == 0) (.cfc1 (rtF w) (rdF w))
  | 4 => zeroed (saF w == 0 && fnF w == 0) (.mtc1 (rtF w) (rdF w))
  | 5 => zeroed (saF w == 0 && fnF w == 0) (.dmtc1 (rtF w) (rdF w))
  | 6 => zeroed (saF w == 0 && fnF w == 0) (.ctc1 (rtF w) (rdF w))
  | 8 => decodeBc1 w
  | 16 => decodeFpS w
  | 17 => decodeFpD w
  | 20 => decodeFpW w
  | 21 => decodeFpL w
  | _ => .reservedCop 1

/-- Decode one word (R175, R180, R183). -/
def decode (w : Word32) : Decoded :=
  match (opF w).toNat with
  | 0 => decodeSpecial w
  | 1 => decodeRegimm w
  | 2 => .instr (.j (targetF w))
  | 3 => .instr (.jal (targetF w))
  | 4 => .instr (.beq (rsF w) (rtF w) (immF w))
  | 5 => .instr (.bne (rsF w) (rtF w) (immF w))
  | 6 => zeroed (rtF w == 0) (.blez (rsF w) (immF w))
  | 7 => zeroed (rtF w == 0) (.bgtz (rsF w) (immF w))
  | 8 => .instr (.addi (rsF w) (rtF w) (immF w))
  | 9 => .instr (.addiu (rsF w) (rtF w) (immF w))
  | 10 => .instr (.slti (rsF w) (rtF w) (immF w))
  | 11 => .instr (.sltiu (rsF w) (rtF w) (immF w))
  | 12 => .instr (.andi (rsF w) (rtF w) (immF w))
  | 13 => .instr (.ori (rsF w) (rtF w) (immF w))
  | 14 => .instr (.xori (rsF w) (rtF w) (immF w))
  | 15 => zeroed (rsF w == 0) (.lui (rtF w) (immF w))
  | 16 => decodeCop0 w
  | 17 => decodeCop1 w
  | 18 => .cop2
  | 20 => .instr (.beql (rsF w) (rtF w) (immF w))
  | 21 => .instr (.bnel (rsF w) (rtF w) (immF w))
  | 22 => zeroed (rtF w == 0) (.blezl (rsF w) (immF w))
  | 23 => zeroed (rtF w == 0) (.bgtzl (rsF w) (immF w))
  | 24 => .instr (.daddi (rsF w) (rtF w) (immF w))
  | 25 => .instr (.daddiu (rsF w) (rtF w) (immF w))
  | 26 => .instr (.ldl (rsF w) (rtF w) (immF w))
  | 27 => .instr (.ldr (rsF w) (rtF w) (immF w))
  | 32 => .instr (.lb (rsF w) (rtF w) (immF w))
  | 33 => .instr (.lh (rsF w) (rtF w) (immF w))
  | 34 => .instr (.lwl (rsF w) (rtF w) (immF w))
  | 35 => .instr (.lw (rsF w) (rtF w) (immF w))
  | 36 => .instr (.lbu (rsF w) (rtF w) (immF w))
  | 37 => .instr (.lhu (rsF w) (rtF w) (immF w))
  | 38 => .instr (.lwr (rsF w) (rtF w) (immF w))
  | 39 => .instr (.lwu (rsF w) (rtF w) (immF w))
  | 40 => .instr (.sb (rsF w) (rtF w) (immF w))
  | 41 => .instr (.sh (rsF w) (rtF w) (immF w))
  | 42 => .instr (.swl (rsF w) (rtF w) (immF w))
  | 43 => .instr (.sw (rsF w) (rtF w) (immF w))
  | 44 => .instr (.sdl (rsF w) (rtF w) (immF w))
  | 45 => .instr (.sdr (rsF w) (rtF w) (immF w))
  | 46 => .instr (.swr (rsF w) (rtF w) (immF w))
  | 47 => .instr (.cache (rsF w) (rtF w) (immF w))
  | 48 => .instr (.ll (rsF w) (rtF w) (immF w))
  | 49 => .instr (.lwc1 (rsF w) (rtF w) (immF w))
  | 52 => .instr (.lld (rsF w) (rtF w) (immF w))
  | 53 => .instr (.ldc1 (rsF w) (rtF w) (immF w))
  | 55 => .instr (.ld (rsF w) (rtF w) (immF w))
  | 56 => .instr (.sc (rsF w) (rtF w) (immF w))
  | 57 => .instr (.swc1 (rsF w) (rtF w) (immF w))
  | 60 => .instr (.scd (rsF w) (rtF w) (immF w))
  | 61 => .instr (.sdc1 (rsF w) (rtF w) (immF w))
  | 63 => .instr (.sd (rsF w) (rtF w) (immF w))
  | _ => .reserved

/-- The four bytes of an instruction, the first at the lowest address, read as the hardware stores a word:
big-endian (R170; spec/20_memory.md R100). -/
def decodeBytes (b0 b1 b2 b3 : Byte) : Decoded :=
  decode (b0 ++ b1 ++ b2 ++ b3)

/-- The instruction the decoder reads from a table word, or none where it reads no instruction. -/
def decodeTableWord (nbits w : Nat) : Option Instr :=
  let v := BitVec.ofNat 32 (w % 2 ^ nbits)
  match decodeBytes (v.extractLsb' 24 8) (v.extractLsb' 16 8) (v.extractLsb' 8 8) (v.extractLsb' 0 8) with
  | .instr i => some i
  | _ => none

/-- A word of the I, RI, FB or CA format (R171). -/
def wordI (op : BitVec 6) (rs rt : BitVec 5) (imm : BitVec 16) : Word32 :=
  BitVec.cast (n := 6 + 5 + 5 + 16) rfl (op ++ rs ++ rt ++ imm)

/-- A word of the R, CM, CO or FR format (R171). -/
def wordR (op : BitVec 6) (rs rt rd sa : BitVec 5) (fn : BitVec 6) : Word32 :=
  BitVec.cast (n := 6 + 5 + 5 + 5 + 5 + 6) rfl (op ++ rs ++ rt ++ rd ++ sa ++ fn)

/-- A word of the J format (R171). -/
def wordJ (op : BitVec 6) (target : BitVec 26) : Word32 :=
  BitVec.cast (n := 6 + 26) rfl (op ++ target)

/-- A word of the SY format (R171). -/
def wordCode (op : BitVec 6) (code : BitVec 20) (fn : BitVec 6) : Word32 :=
  BitVec.cast (n := 6 + 20 + 6) rfl (op ++ code ++ fn)

/-- A word of the TR format (R171). -/
def wordTrap (op : BitVec 6) (rs rt : BitVec 5) (code : BitVec 10) (fn : BitVec 6) : Word32 :=
  BitVec.cast (n := 6 + 5 + 5 + 10 + 6) rfl (op ++ rs ++ rt ++ code ++ fn)

/-- The word of an instruction, every should-be-zero bit 0 (R173, and the pattern of each row). -/
def encode (i : Instr) : Word32 :=
  match i with
  | .lb base rt offset => wordI 32#6 base rt offset
  | .lbu base rt offset => wordI 36#6 base rt offset
  | .lh base rt offset => wordI 33#6 base rt offset
  | .lhu base rt offset => wordI 37#6 base rt offset
  | .lw base rt offset => wordI 35#6 base rt offset
  | .lwu base rt offset => wordI 39#6 base rt offset
  | .ld base rt offset => wordI 55#6 base rt offset
  | .lwl base rt offset => wordI 34#6 base rt offset
  | .lwr base rt offset => wordI 38#6 base rt offset
  | .ldl base rt offset => wordI 26#6 base rt offset
  | .ldr base rt offset => wordI 27#6 base rt offset
  | .sb base rt offset => wordI 40#6 base rt offset
  | .sh base rt offset => wordI 41#6 base rt offset
  | .sw base rt offset => wordI 43#6 base rt offset
  | .sd base rt offset => wordI 63#6 base rt offset
  | .swl base rt offset => wordI 42#6 base rt offset
  | .swr base rt offset => wordI 46#6 base rt offset
  | .sdl base rt offset => wordI 44#6 base rt offset
  | .sdr base rt offset => wordI 45#6 base rt offset
  | .ll base rt offset => wordI 48#6 base rt offset
  | .lld base rt offset => wordI 52#6 base rt offset
  | .sc base rt offset => wordI 56#6 base rt offset
  | .scd base rt offset => wordI 60#6 base rt offset
  | .addi rs rt imm => wordI 8#6 rs rt imm
  | .addiu rs rt imm => wordI 9#6 rs rt imm
  | .slti rs rt imm => wordI 10#6 rs rt imm
  | .sltiu rs rt imm => wordI 11#6 rs rt imm
  | .andi rs rt imm => wordI 12#6 rs rt imm
  | .ori rs rt imm => wordI 13#6 rs rt imm
  | .xori rs rt imm => wordI 14#6 rs rt imm
  | .daddi rs rt imm => wordI 24#6 rs rt imm
  | .daddiu rs rt imm => wordI 25#6 rs rt imm
  | .lui rt imm => wordI 15#6 0#5 rt imm
  | .add rs rt rd => wordR 0#6 rs rt rd 0#5 32#6
  | .addu rs rt rd => wordR 0#6 rs rt rd 0#5 33#6
  | .sub rs rt rd => wordR 0#6 rs rt rd 0#5 34#6
  | .subu rs rt rd => wordR 0#6 rs rt rd 0#5 35#6
  | .and rs rt rd => wordR 0#6 rs rt rd 0#5 36#6
  | .or rs rt rd => wordR 0#6 rs rt rd 0#5 37#6
  | .xor rs rt rd => wordR 0#6 rs rt rd 0#5 38#6
  | .nor rs rt rd => wordR 0#6 rs rt rd 0#5 39#6
  | .slt rs rt rd => wordR 0#6 rs rt rd 0#5 42#6
  | .sltu rs rt rd => wordR 0#6 rs rt rd 0#5 43#6
  | .dadd rs rt rd => wordR 0#6 rs rt rd 0#5 44#6
  | .daddu rs rt rd => wordR 0#6 rs rt rd 0#5 45#6
  | .dsub rs rt rd => wordR 0#6 rs rt rd 0#5 46#6
  | .dsubu rs rt rd => wordR 0#6 rs rt rd 0#5 47#6
  | .sllv rs rt rd => wordR 0#6 rs rt rd 0#5 4#6
  | .srlv rs rt rd => wordR 0#6 rs rt rd 0#5 6#6
  | .srav rs rt rd => wordR 0#6 rs rt rd 0#5 7#6
  | .dsllv rs rt rd => wordR 0#6 rs rt rd 0#5 20#6
  | .dsrlv rs rt rd => wordR 0#6 rs rt rd 0#5 22#6
  | .dsrav rs rt rd => wordR 0#6 rs rt rd 0#5 23#6
  | .sll rt rd sa => wordR 0#6 0#5 rt rd sa 0#6
  | .srl rt rd sa => wordR 0#6 0#5 rt rd sa 2#6
  | .sra rt rd sa => wordR 0#6 0#5 rt rd sa 3#6
  | .dsll rt rd sa => wordR 0#6 0#5 rt rd sa 56#6
  | .dsrl rt rd sa => wordR 0#6 0#5 rt rd sa 58#6
  | .dsra rt rd sa => wordR 0#6 0#5 rt rd sa 59#6
  | .dsll32 rt rd sa => wordR 0#6 0#5 rt rd sa 60#6
  | .dsrl32 rt rd sa => wordR 0#6 0#5 rt rd sa 62#6
  | .dsra32 rt rd sa => wordR 0#6 0#5 rt rd sa 63#6
  | .mult rs rt => wordR 0#6 rs rt 0#5 0#5 24#6
  | .multu rs rt => wordR 0#6 rs rt 0#5 0#5 25#6
  | .dmult rs rt => wordR 0#6 rs rt 0#5 0#5 28#6
  | .dmultu rs rt => wordR 0#6 rs rt 0#5 0#5 29#6
  | .div rs rt => wordR 0#6 rs rt 0#5 0#5 26#6
  | .divu rs rt => wordR 0#6 rs rt 0#5 0#5 27#6
  | .ddiv rs rt => wordR 0#6 rs rt 0#5 0#5 30#6
  | .ddivu rs rt => wordR 0#6 rs rt 0#5 0#5 31#6
  | .mfhi rd => wordR 0#6 0#5 0#5 rd 0#5 16#6
  | .mthi rs => wordR 0#6 rs 0#5 0#5 0#5 17#6
  | .mflo rd => wordR 0#6 0#5 0#5 rd 0#5 18#6
  | .mtlo rs => wordR 0#6 rs 0#5 0#5 0#5 19#6
  | .j target => wordJ 2#6 target
  | .jal target => wordJ 3#6 target
  | .jr rs => wordR 0#6 rs 0#5 0#5 0#5 8#6
  | .jalr rs rd => wordR 0#6 rs 0#5 rd 0#5 9#6
  | .beq rs rt offset => wordI 4#6 rs rt offset
  | .bne rs rt offset => wordI 5#6 rs rt offset
  | .beql rs rt offset => wordI 20#6 rs rt offset
  | .bnel rs rt offset => wordI 21#6 rs rt offset
  | .blez rs offset => wordI 6#6 rs 0#5 offset
  | .bgtz rs offset => wordI 7#6 rs 0#5 offset
  | .blezl rs offset => wordI 22#6 rs 0#5 offset
  | .bgtzl rs offset => wordI 23#6 rs 0#5 offset
  | .bltz rs offset => wordI 1#6 rs 0#5 offset
  | .bgez rs offset => wordI 1#6 rs 1#5 offset
  | .bltzal rs offset => wordI 1#6 rs 16#5 offset
  | .bgezal rs offset => wordI 1#6 rs 17#5 offset
  | .bltzall rs offset => wordI 1#6 rs 18#5 offset
  | .bgezall rs offset => wordI 1#6 rs 19#5 offset
  | .bltzl rs offset => wordI 1#6 rs 2#5 offset
  | .bgezl rs offset => wordI 1#6 rs 3#5 offset
  | .tge rs rt code => wordTrap 0#6 rs rt code 48#6
  | .tgeu rs rt code => wordTrap 0#6 rs rt code 49#6
  | .tlt rs rt code => wordTrap 0#6 rs rt code 50#6
  | .tltu rs rt code => wordTrap 0#6 rs rt code 51#6
  | .teq rs rt code => wordTrap 0#6 rs rt code 52#6
  | .tne rs rt code => wordTrap 0#6 rs rt code 54#6
  | .tgei rs imm => wordI 1#6 rs 8#5 imm
  | .tgeiu rs imm => wordI 1#6 rs 9#5 imm
  | .tlti rs imm => wordI 1#6 rs 10#5 imm
  | .tltiu rs imm => wordI 1#6 rs 11#5 imm
  | .teqi rs imm => wordI 1#6 rs 12#5 imm
  | .tnei rs imm => wordI 1#6 rs 14#5 imm
  | .syscall code => wordCode 0#6 code 12#6
  | .brk code => wordCode 0#6 code 13#6
  | .sync => wordCode 0#6 0#20 15#6
  | .cache base op offset => wordI 47#6 base op offset
  | .mfc0 rt rd => wordR 16#6 0#5 rt rd 0#5 0#6
  | .mtc0 rt rd => wordR 16#6 4#5 rt rd 0#5 0#6
  | .dmfc0 rt rd => wordR 16#6 1#5 rt rd 0#5 0#6
  | .dmtc0 rt rd => wordR 16#6 5#5 rt rd 0#5 0#6
  | .tlbr => wordR 16#6 16#5 0#5 0#5 0#5 1#6
  | .tlbwi => wordR 16#6 16#5 0#5 0#5 0#5 2#6
  | .tlbwr => wordR 16#6 16#5 0#5 0#5 0#5 6#6
  | .tlbp => wordR 16#6 16#5 0#5 0#5 0#5 8#6
  | .eret => wordR 16#6 16#5 0#5 0#5 0#5 24#6
  | .lwc1 base ft offset => wordI 49#6 base ft offset
  | .ldc1 base ft offset => wordI 53#6 base ft offset
  | .swc1 base ft offset => wordI 57#6 base ft offset
  | .sdc1 base ft offset => wordI 61#6 base ft offset
  | .mfc1 rt fs => wordR 17#6 0#5 rt fs 0#5 0#6
  | .dmfc1 rt fs => wordR 17#6 1#5 rt fs 0#5 0#6
  | .cfc1 rt fs => wordR 17#6 2#5 rt fs 0#5 0#6
  | .ctc1 rt fs => wordR 17#6 6#5 rt fs 0#5 0#6
  | .mtc1 rt fs => wordR 17#6 4#5 rt fs 0#5 0#6
  | .dmtc1 rt fs => wordR 17#6 5#5 rt fs 0#5 0#6
  | .bc1f offset => wordI 17#6 8#5 0#5 offset
  | .bc1t offset => wordI 17#6 8#5 1#5 offset
  | .bc1fl offset => wordI 17#6 8#5 2#5 offset
  | .bc1tl offset => wordI 17#6 8#5 3#5 offset
  | .addS ft fs fd => wordR 17#6 16#5 ft fs fd 0#6
  | .addD ft fs fd => wordR 17#6 17#5 ft fs fd 0#6
  | .subS ft fs fd => wordR 17#6 16#5 ft fs fd 1#6
  | .subD ft fs fd => wordR 17#6 17#5 ft fs fd 1#6
  | .mulS ft fs fd => wordR 17#6 16#5 ft fs fd 2#6
  | .mulD ft fs fd => wordR 17#6 17#5 ft fs fd 2#6
  | .divS ft fs fd => wordR 17#6 16#5 ft fs fd 3#6
  | .divD ft fs fd => wordR 17#6 17#5 ft fs fd 3#6
  | .sqrtS fs fd => wordR 17#6 16#5 0#5 fs fd 4#6
  | .sqrtD fs fd => wordR 17#6 17#5 0#5 fs fd 4#6
  | .absS fs fd => wordR 17#6 16#5 0#5 fs fd 5#6
  | .absD fs fd => wordR 17#6 17#5 0#5 fs fd 5#6
  | .movS fs fd => wordR 17#6 16#5 0#5 fs fd 6#6
  | .movD fs fd => wordR 17#6 17#5 0#5 fs fd 6#6
  | .negS fs fd => wordR 17#6 16#5 0#5 fs fd 7#6
  | .negD fs fd => wordR 17#6 17#5 0#5 fs fd 7#6
  | .roundLS fs fd => wordR 17#6 16#5 0#5 fs fd 8#6
  | .roundLD fs fd => wordR 17#6 17#5 0#5 fs fd 8#6
  | .truncLS fs fd => wordR 17#6 16#5 0#5 fs fd 9#6
  | .truncLD fs fd => wordR 17#6 17#5 0#5 fs fd 9#6
  | .ceilLS fs fd => wordR 17#6 16#5 0#5 fs fd 10#6
  | .ceilLD fs fd => wordR 17#6 17#5 0#5 fs fd 10#6
  | .floorLS fs fd => wordR 17#6 16#5 0#5 fs fd 11#6
  | .floorLD fs fd => wordR 17#6 17#5 0#5 fs fd 11#6
  | .roundWS fs fd => wordR 17#6 16#5 0#5 fs fd 12#6
  | .roundWD fs fd => wordR 17#6 17#5 0#5 fs fd 12#6
  | .truncWS fs fd => wordR 17#6 16#5 0#5 fs fd 13#6
  | .truncWD fs fd => wordR 17#6 17#5 0#5 fs fd 13#6
  | .ceilWS fs fd => wordR 17#6 16#5 0#5 fs fd 14#6
  | .ceilWD fs fd => wordR 17#6 17#5 0#5 fs fd 14#6
  | .floorWS fs fd => wordR 17#6 16#5 0#5 fs fd 15#6
  | .floorWD fs fd => wordR 17#6 17#5 0#5 fs fd 15#6
  | .cvtSD fs fd => wordR 17#6 17#5 0#5 fs fd 32#6
  | .cvtSW fs fd => wordR 17#6 20#5 0#5 fs fd 32#6
  | .cvtSL fs fd => wordR 17#6 21#5 0#5 fs fd 32#6
  | .cvtDS fs fd => wordR 17#6 16#5 0#5 fs fd 33#6
  | .cvtDW fs fd => wordR 17#6 20#5 0#5 fs fd 33#6
  | .cvtDL fs fd => wordR 17#6 21#5 0#5 fs fd 33#6
  | .cvtWS fs fd => wordR 17#6 16#5 0#5 fs fd 36#6
  | .cvtWD fs fd => wordR 17#6 17#5 0#5 fs fd 36#6
  | .cvtLS fs fd => wordR 17#6 16#5 0#5 fs fd 37#6
  | .cvtLD fs fd => wordR 17#6 17#5 0#5 fs fd 37#6
  | .cFS ft fs => wordR 17#6 16#5 ft fs 0#5 48#6
  | .cUnS ft fs => wordR 17#6 16#5 ft fs 0#5 49#6
  | .cEqS ft fs => wordR 17#6 16#5 ft fs 0#5 50#6
  | .cUeqS ft fs => wordR 17#6 16#5 ft fs 0#5 51#6
  | .cOltS ft fs => wordR 17#6 16#5 ft fs 0#5 52#6
  | .cUltS ft fs => wordR 17#6 16#5 ft fs 0#5 53#6
  | .cOleS ft fs => wordR 17#6 16#5 ft fs 0#5 54#6
  | .cUleS ft fs => wordR 17#6 16#5 ft fs 0#5 55#6
  | .cSfS ft fs => wordR 17#6 16#5 ft fs 0#5 56#6
  | .cNgleS ft fs => wordR 17#6 16#5 ft fs 0#5 57#6
  | .cSeqS ft fs => wordR 17#6 16#5 ft fs 0#5 58#6
  | .cNglS ft fs => wordR 17#6 16#5 ft fs 0#5 59#6
  | .cLtS ft fs => wordR 17#6 16#5 ft fs 0#5 60#6
  | .cNgeS ft fs => wordR 17#6 16#5 ft fs 0#5 61#6
  | .cLeS ft fs => wordR 17#6 16#5 ft fs 0#5 62#6
  | .cNgtS ft fs => wordR 17#6 16#5 ft fs 0#5 63#6
  | .cFD ft fs => wordR 17#6 17#5 ft fs 0#5 48#6
  | .cUnD ft fs => wordR 17#6 17#5 ft fs 0#5 49#6
  | .cEqD ft fs => wordR 17#6 17#5 ft fs 0#5 50#6
  | .cUeqD ft fs => wordR 17#6 17#5 ft fs 0#5 51#6
  | .cOltD ft fs => wordR 17#6 17#5 ft fs 0#5 52#6
  | .cUltD ft fs => wordR 17#6 17#5 ft fs 0#5 53#6
  | .cOleD ft fs => wordR 17#6 17#5 ft fs 0#5 54#6
  | .cUleD ft fs => wordR 17#6 17#5 ft fs 0#5 55#6
  | .cSfD ft fs => wordR 17#6 17#5 ft fs 0#5 56#6
  | .cNgleD ft fs => wordR 17#6 17#5 ft fs 0#5 57#6
  | .cSeqD ft fs => wordR 17#6 17#5 ft fs 0#5 58#6
  | .cNglD ft fs => wordR 17#6 17#5 ft fs 0#5 59#6
  | .cLtD ft fs => wordR 17#6 17#5 ft fs 0#5 60#6
  | .cNgeD ft fs => wordR 17#6 17#5 ft fs 0#5 61#6
  | .cLeD ft fs => wordR 17#6 17#5 ft fs 0#5 62#6
  | .cNgtD ft fs => wordR 17#6 17#5 ft fs 0#5 63#6

end Sys2Proof
end

