-- ==== Sys2Proof/Machine/Alu.lean ====
section
/-! DEFINITION. Integer arithmetic, logical and shift instructions (spec/41_alu.md R240 to R280). -/

namespace Sys2Proof.Machine

/-! ### Shared operations -/

/-- A 32-bit result, sign-extended, into a register (spec/41_alu.md R280). -/
def putWord (dst : Reg) (v : Word32) (s : State) : Res State := .ok (writeGpr s dst (sextWord v))

/-- A 64-bit result into a register (spec/41_alu.md R280). -/
def putDouble (dst : Reg) (v : Word) (s : State) : Res State := .ok (writeGpr s dst v)

/-- A comparison's 0 or 1 into a register (spec/41_alu.md R280). -/
def putBool (dst : Reg) (c : Bool) (s : State) : Res State := .ok (writeGpr s dst (if c then 1 else 0))

/-- An exact 32-bit sum or difference, Integer Overflow when it does not fit (spec/41_alu.md R280). -/
def putWordTrap (dst : Reg) (x : Int) (s : State) : Res State := do
  require (!overflows 32 x) (.exc .integerOverflow)
  putWord dst (BitVec.ofInt 32 x) s

/-- An exact 64-bit sum or difference, Integer Overflow when it does not fit (spec/41_alu.md R280). -/
def putDoubleTrap (dst : Reg) (x : Int) (s : State) : Res State := do
  require (!overflows 64 x) (.exc .integerOverflow)
  putDouble dst (BitVec.ofInt 64 x) s

/-! ### Immediate instructions -/

/-- ADDI (spec/41_alu.md R241). -/
def execAddi (rs rt : Reg) (imm : BitVec 16) (s : State) : Result :=
  complete s (do
    requireSE32 (readGpr s rs)
    putWordTrap rt ((lowWord (readGpr s rs)).toInt + imm.toInt) s)

/-- ADDIU (spec/41_alu.md R242). -/
def execAddiu (rs rt : Reg) (imm : BitVec 16) (s : State) : Result :=
  complete s (do
    requireSE32 (readGpr s rs)
    putWord rt (lowWord (readGpr s rs) + imm.signExtend 32) s)

/-- SLTI (spec/41_alu.md R243). -/
def execSlti (rs rt : Reg) (imm : BitVec 16) (s : State) : Result :=
  complete s (putBool rt ((readGpr s rs).slt (signedImm imm)) s)

/-- SLTIU (spec/41_alu.md R244). -/
def execSltiu (rs rt : Reg) (imm : BitVec 16) (s : State) : Result :=
  complete s (putBool rt ((readGpr s rs).ult (signedImm imm)) s)

/-- ANDI (spec/41_alu.md R245). -/
def execAndi (rs rt : Reg) (imm : BitVec 16) (s : State) : Result :=
  complete s (putDouble rt (readGpr s rs &&& zeroImm imm) s)

/-- ORI (spec/41_alu.md R246). -/
def execOri (rs rt : Reg) (imm : BitVec 16) (s : State) : Result :=
  complete s (putDouble rt (readGpr s rs ||| zeroImm imm) s)

/-- XORI (spec/41_alu.md R247). -/
def execXori (rs rt : Reg) (imm : BitVec 16) (s : State) : Result :=
  complete s (putDouble rt (readGpr s rs ^^^ zeroImm imm) s)

/-- LUI (spec/41_alu.md R248). -/
def execLui (rt : Reg) (imm : BitVec 16) (s : State) : Result :=
  complete s (putDouble rt (upperImm imm) s)

/-- DADDI (spec/41_alu.md R249). -/
def execDaddi (rs rt : Reg) (imm : BitVec 16) (s : State) : Result :=
  complete s (do
    require64 s
    putDoubleTrap rt ((readGpr s rs).toInt + imm.toInt) s)

/-- DADDIU (spec/41_alu.md R250). -/
def execDaddiu (rs rt : Reg) (imm : BitVec 16) (s : State) : Result :=
  complete s (do
    require64 s
    putDouble rt (readGpr s rs + signedImm imm) s)

/-! ### Three-operand register instructions -/

/-- ADD (spec/41_alu.md R251). -/
def execAdd (rs rt rd : Reg) (s : State) : Result :=
  complete s (do
    requireSE32 (readGpr s rs)
    requireSE32 (readGpr s rt)
    putWordTrap rd ((lowWord (readGpr s rs)).toInt + (lowWord (readGpr s rt)).toInt) s)

/-- ADDU (spec/41_alu.md R252). -/
def execAddu (rs rt rd : Reg) (s : State) : Result :=
  complete s (do
    requireSE32 (readGpr s rs)
    requireSE32 (readGpr s rt)
    putWord rd (lowWord (readGpr s rs) + lowWord (readGpr s rt)) s)

/-- SUB (spec/41_alu.md R253). -/
def execSub (rs rt rd : Reg) (s : State) : Result :=
  complete s (do
    requireSE32 (readGpr s rs)
    requireSE32 (readGpr s rt)
    putWordTrap rd ((lowWord (readGpr s rs)).toInt - (lowWord (readGpr s rt)).toInt) s)

/-- SUBU (spec/41_alu.md R254). -/
def execSubu (rs rt rd : Reg) (s : State) : Result :=
  complete s (do
    requireSE32 (readGpr s rs)
    requireSE32 (readGpr s rt)
    putWord rd (lowWord (readGpr s rs) - lowWord (readGpr s rt)) s)

/-- AND (spec/41_alu.md R255). -/
def execAnd (rs rt rd : Reg) (s : State) : Result :=
  complete s (putDouble rd (readGpr s rs &&& readGpr s rt) s)

/-- OR (spec/41_alu.md R256). -/
def execOr (rs rt rd : Reg) (s : State) : Result :=
  complete s (putDouble rd (readGpr s rs ||| readGpr s rt) s)

/-- XOR (spec/41_alu.md R257). -/
def execXor (rs rt rd : Reg) (s : State) : Result :=
  complete s (putDouble rd (readGpr s rs ^^^ readGpr s rt) s)

/-- NOR (spec/41_alu.md R258). -/
def execNor (rs rt rd : Reg) (s : State) : Result :=
  complete s (putDouble rd (~~~(readGpr s rs ||| readGpr s rt)) s)

/-- SLT (spec/41_alu.md R259). -/
def execSlt (rs rt rd : Reg) (s : State) : Result :=
  complete s (putBool rd ((readGpr s rs).slt (readGpr s rt)) s)

/-- SLTU (spec/41_alu.md R260). -/
def execSltu (rs rt rd : Reg) (s : State) : Result :=
  complete s (putBool rd ((readGpr s rs).ult (readGpr s rt)) s)

/-- DADD (spec/41_alu.md R261). -/
def execDadd (rs rt rd : Reg) (s : State) : Result :=
  complete s (do
    require64 s
    putDoubleTrap rd ((readGpr s rs).toInt + (readGpr s rt).toInt) s)

/-- DADDU (spec/41_alu.md R262). -/
def execDaddu (rs rt rd : Reg) (s : State) : Result :=
  complete s (do
    require64 s
    putDouble rd (readGpr s rs + readGpr s rt) s)

/-- DSUB (spec/41_alu.md R263). -/
def execDsub (rs rt rd : Reg) (s : State) : Result :=
  complete s (do
    require64 s
    putDoubleTrap rd ((readGpr s rs).toInt - (readGpr s rt).toInt) s)

/-- DSUBU (spec/41_alu.md R264). -/
def execDsubu (rs rt rd : Reg) (s : State) : Result :=
  complete s (do
    require64 s
    putDouble rd (readGpr s rs - readGpr s rt) s)

/-! ### Shifts -/

/-- SLL: no SE32 requirement (spec/41_alu.md R265). -/
def execSll (rt rd : Reg) (sa : BitVec 5) (s : State) : Result :=
  complete s (putWord rd (lowWord (readGpr s rt) <<< sa.toNat) s)

/-- SRL (spec/41_alu.md R266). -/
def execSrl (rt rd : Reg) (sa : BitVec 5) (s : State) : Result :=
  complete s (do
    requireSE32 (readGpr s rt)
    putWord rd (lowWord (readGpr s rt) >>> sa.toNat) s)

/-- SRA (spec/41_alu.md R267). -/
def execSra (rt rd : Reg) (sa : BitVec 5) (s : State) : Result :=
  complete s (do
    requireSE32 (readGpr s rt)
    putWord rd ((lowWord (readGpr s rt)).sshiftRight sa.toNat) s)

/-- SLLV: no SE32 requirement (spec/41_alu.md R268). -/
def execSllv (rs rt rd : Reg) (s : State) : Result :=
  complete s (putWord rd (lowWord (readGpr s rt) <<< shiftAmount32 (readGpr s rs)) s)

/-- SRLV (spec/41_alu.md R269). -/
def execSrlv (rs rt rd : Reg) (s : State) : Result :=
  complete s (do
    requireSE32 (readGpr s rt)
    putWord rd (lowWord (readGpr s rt) >>> shiftAmount32 (readGpr s rs)) s)

/-- SRAV (spec/41_alu.md R270). -/
def execSrav (rs rt rd : Reg) (s : State) : Result :=
  complete s (do
    requireSE32 (readGpr s rt)
    putWord rd ((lowWord (readGpr s rt)).sshiftRight (shiftAmount32 (readGpr s rs))) s)

/-- DSLL (spec/41_alu.md R271). -/
def execDsll (rt rd : Reg) (sa : BitVec 5) (s : State) : Result :=
  complete s (do
    require64 s
    putDouble rd (readGpr s rt <<< sa.toNat) s)

/-- DSRL (spec/41_alu.md R272). -/
def execDsrl (rt rd : Reg) (sa : BitVec 5) (s : State) : Result :=
  complete s (do
    require64 s
    putDouble rd (readGpr s rt >>> sa.toNat) s)

/-- DSRA (spec/41_alu.md R273). -/
def execDsra (rt rd : Reg) (sa : BitVec 5) (s : State) : Result :=
  complete s (do
    require64 s
    putDouble rd ((readGpr s rt).sshiftRight sa.toNat) s)

/-- DSLLV (spec/41_alu.md R274). -/
def execDsllv (rs rt rd : Reg) (s : State) : Result :=
  complete s (do
    require64 s
    putDouble rd (readGpr s rt <<< (shiftAmount64 (readGpr s rs))) s)

/-- DSRLV (spec/41_alu.md R275). -/
def execDsrlv (rs rt rd : Reg) (s : State) : Result :=
  complete s (do
    require64 s
    putDouble rd (readGpr s rt >>> (shiftAmount64 (readGpr s rs))) s)

/-- DSRAV (spec/41_alu.md R276). -/
def execDsrav (rs rt rd : Reg) (s : State) : Result :=
  complete s (do
    require64 s
    putDouble rd ((readGpr s rt).sshiftRight (shiftAmount64 (readGpr s rs))) s)

/-- DSLL32 (spec/41_alu.md R277). -/
def execDsll32 (rt rd : Reg) (sa : BitVec 5) (s : State) : Result :=
  complete s (do
    require64 s
    putDouble rd (readGpr s rt <<< (shiftPlus32 sa)) s)

/-- DSRL32 (spec/41_alu.md R278). -/
def execDsrl32 (rt rd : Reg) (sa : BitVec 5) (s : State) : Result :=
  complete s (do
    require64 s
    putDouble rd (readGpr s rt >>> (shiftPlus32 sa)) s)

/-- DSRA32 (spec/41_alu.md R279). -/
def execDsra32 (rt rd : Reg) (sa : BitVec 5) (s : State) : Result :=
  complete s (do
    require64 s
    putDouble rd ((readGpr s rt).sshiftRight (shiftPlus32 sa)) s)

end Sys2Proof.Machine
end

