-- ==== Sys2Proof/Machine/Branch.lean ====
section
/-! DEFINITION. Jumps and branches (spec/43_branch_jump.md R310 to R332). The four branches on the floating-point
condition use the same operations and are in Machine/Fpu.lean. -/

namespace Sys2Proof.Machine

/-! ### Shared operations -/

/-- A conditional branch: to its target, or to PC + 8, after the delay slot (spec/10_state.md R27). -/
def branchIf (c : Bool) (offset : BitVec 16) (s : State) : Res State :=
  branchTo (if c then branchTarget s.pc offset else s.pc + 8) s

/-- A branch-likely: when it is not taken the delay slot is nullified (spec/43_branch_jump.md R311). -/
def branchLikelyIf (c : Bool) (offset : BitVec 16) (s : State) : Res State :=
  if c then branchTo (branchTarget s.pc offset) s else skipSlot s

/-- The link value PC + 8 into a register (spec/43_branch_jump.md R310). -/
def link (r : Reg) (s : State) : State := writeGpr s r (s.pc + 8)

/-- A linking branch needs rs different from 31 (spec/43_branch_jump.md R332). -/
def requireNotLink (rs : Reg) : Res Unit := require (rs != 31) (.refused .linkingBranchOnLink)

/-- Less than zero, signed. -/
def isNegative (v : Word) : Bool := v.getLsbD 63

/-- Less than or equal to zero, signed. -/
def isNotPositive (v : Word) : Bool := isNegative v || v == 0

/-! ### Jumps -/

/-- J (spec/43_branch_jump.md R312). -/
def execJ (target : BitVec 26) (s : State) : Result :=
  finish s (branchTo (jumpTarget s.pc target) s)

/-- JAL (spec/43_branch_jump.md R313). -/
def execJal (target : BitVec 26) (s : State) : Result :=
  finish s (branchTo (jumpTarget s.pc target) (link 31 s))

/-- JR (spec/43_branch_jump.md R314). -/
def execJr (rs : Reg) (s : State) : Result :=
  finish s (branchTo (readGpr s rs) s)

/-- JALR, refused when rd = rs (spec/43_branch_jump.md R315). -/
def execJalr (rs rd : Reg) (s : State) : Result :=
  finish s (do
    require (rd != rs) (.refused .jalrSameRegister)
    branchTo (readGpr s rs) (link rd s))

/-! ### Two-register and compare-with-zero branches -/

/-- BEQ (spec/43_branch_jump.md R316). -/
def execBeq (rs rt : Reg) (offset : BitVec 16) (s : State) : Result :=
  finish s (branchIf (readGpr s rs == readGpr s rt) offset s)

/-- BNE (spec/43_branch_jump.md R317). -/
def execBne (rs rt : Reg) (offset : BitVec 16) (s : State) : Result :=
  finish s (branchIf (readGpr s rs != readGpr s rt) offset s)

/-- BLEZ (spec/43_branch_jump.md R318). -/
def execBlez (rs : Reg) (offset : BitVec 16) (s : State) : Result :=
  finish s (branchIf (isNotPositive (readGpr s rs)) offset s)

/-- BGTZ (spec/43_branch_jump.md R319). -/
def execBgtz (rs : Reg) (offset : BitVec 16) (s : State) : Result :=
  finish s (branchIf (!isNotPositive (readGpr s rs)) offset s)

/-- BEQL (spec/43_branch_jump.md R320). -/
def execBeql (rs rt : Reg) (offset : BitVec 16) (s : State) : Result :=
  finish s (branchLikelyIf (readGpr s rs == readGpr s rt) offset s)

/-- BNEL (spec/43_branch_jump.md R321). -/
def execBnel (rs rt : Reg) (offset : BitVec 16) (s : State) : Result :=
  finish s (branchLikelyIf (readGpr s rs != readGpr s rt) offset s)

/-- BLEZL (spec/43_branch_jump.md R322). -/
def execBlezl (rs : Reg) (offset : BitVec 16) (s : State) : Result :=
  finish s (branchLikelyIf (isNotPositive (readGpr s rs)) offset s)

/-- BGTZL (spec/43_branch_jump.md R323). -/
def execBgtzl (rs : Reg) (offset : BitVec 16) (s : State) : Result :=
  finish s (branchLikelyIf (!isNotPositive (readGpr s rs)) offset s)

/-! ### REGIMM branches -/

/-- BLTZ (spec/43_branch_jump.md R324). -/
def execBltz (rs : Reg) (offset : BitVec 16) (s : State) : Result :=
  finish s (branchIf (isNegative (readGpr s rs)) offset s)

/-- BGEZ (spec/43_branch_jump.md R325). -/
def execBgez (rs : Reg) (offset : BitVec 16) (s : State) : Result :=
  finish s (branchIf (!isNegative (readGpr s rs)) offset s)

/-- BLTZAL, refused when rs = 31 (spec/43_branch_jump.md R326). -/
def execBltzal (rs : Reg) (offset : BitVec 16) (s : State) : Result :=
  finish s (do
    requireNotLink rs
    branchIf (isNegative (readGpr s rs)) offset (link 31 s))

/-- BGEZAL, refused when rs = 31 (spec/43_branch_jump.md R327). -/
def execBgezal (rs : Reg) (offset : BitVec 16) (s : State) : Result :=
  finish s (do
    requireNotLink rs
    branchIf (!isNegative (readGpr s rs)) offset (link 31 s))

/-- BLTZALL, refused when rs = 31 (spec/43_branch_jump.md R328). -/
def execBltzall (rs : Reg) (offset : BitVec 16) (s : State) : Result :=
  finish s (do
    requireNotLink rs
    branchLikelyIf (isNegative (readGpr s rs)) offset (link 31 s))

/-- BGEZALL, refused when rs = 31 (spec/43_branch_jump.md R329). -/
def execBgezall (rs : Reg) (offset : BitVec 16) (s : State) : Result :=
  finish s (do
    requireNotLink rs
    branchLikelyIf (!isNegative (readGpr s rs)) offset (link 31 s))

/-- BLTZL (spec/43_branch_jump.md R330). -/
def execBltzl (rs : Reg) (offset : BitVec 16) (s : State) : Result :=
  finish s (branchLikelyIf (isNegative (readGpr s rs)) offset s)

/-- BGEZL (spec/43_branch_jump.md R331). -/
def execBgezl (rs : Reg) (offset : BitVec 16) (s : State) : Result :=
  finish s (branchLikelyIf (!isNegative (readGpr s rs)) offset s)

end Sys2Proof.Machine
end

