-- ==== Sys2Proof/Machine/Cop0.lean ====
section
/-! DEFINITION. Coprocessor 0: reading and writing its registers, the TLB instructions and ERET
(spec/45_cop0.md R365 to R374; spec/10_state.md R41 to R62). -/

namespace Sys2Proof.Machine

/-! ### Register images (spec/10_state.md section 6) -/

/-- Index as a word (spec/10_state.md R41). -/
def indexWord (r : IndexReg) : Word32 := BitVec.ofBool r.p ++ 0#25 ++ r.index

/-- EntryLo0 or EntryLo1 (spec/10_state.md R43). -/
def entryLoWord (r : EntryLo) : Word :=
  0#34 ++ r.page.pfn ++ r.page.c ++ BitVec.ofBool r.page.d ++ BitVec.ofBool r.page.v ++ BitVec.ofBool r.g

/-- EntryLo0 or EntryLo1 from a written value (spec/10_state.md R43; spec/45_cop0.md R367). -/
def entryLoOf (v : Word) : EntryLo :=
  { page := { pfn := v.extractLsb' 6 24, c := v.extractLsb' 3 3, d := v.getLsbD 2, v := v.getLsbD 1 }, g := v.getLsbD 0 }

/-- Context (spec/10_state.md R44). -/
def contextWord (r : Context) : Word := r.pteBase ++ r.badVpn2 ++ 0#4

/-- PageMask (spec/10_state.md R45). -/
def pageMaskWord (m : BitVec 12) : Word32 := 0#7 ++ m ++ 0#13

/-- EntryHi (spec/10_state.md R49). -/
def entryHiWord (r : EntryHi) : Word := r.r ++ 0#22 ++ r.vpn2 ++ 0#5 ++ r.asid

/-- EntryHi from a written value (spec/10_state.md R49; spec/45_cop0.md R367). -/
def entryHiOf (v : Word) : EntryHi :=
  { r := v.extractLsb' 62 2, vpn2 := v.extractLsb' 13 27, asid := v.extractLsb' 0 8 }

/-- Cause (spec/10_state.md R51). -/
def causeWord (r : Cause) : Word32 :=
  BitVec.ofBool r.bd ++ 0#1 ++ r.ce ++ 0#12 ++ r.ip ++ 0#1 ++ r.excCode ++ 0#2

/-- XContext (spec/10_state.md R58). -/
def xcontextWord (r : XContext) : Word := r.pteBase ++ r.r ++ r.badVpn2 ++ 0#4

/-! ### Random -/

/-- A value of Wired..31, chosen freely; any 6-bit value when Wired is above 31 (spec/10_state.md R42; log 9). -/
def drawRandom (s : State) : BitVec 6 :=
  if s.cp0.wired.toNat ≤ 31 then
    BitVec.ofNat 6 (s.cp0.wired.toNat + (drawn s).toNat % (32 - s.cp0.wired.toNat))
  else (drawn s).extractLsb' 0 6

/-- A read of Random: the value drawn is the register's new value (spec/10_state.md R42; log 9). -/
def readRandom (s : State) : BitVec 6 × State :=
  (drawRandom s, spendDraws 1 { s with cp0 := { s.cp0 with random := drawRandom s } })

/-! ### Register access -/

/-- The register has 64 bits (spec/10_state.md R40; spec/45_cop0.md R366). -/
def isWideCop0 (n : Reg) : Bool :=
  n == 2 || n == 3 || n == 4 || n == 8 || n == 10 || n == 14 || n == 20 || n == 30

/-- The register number is reserved (spec/10_state.md R62). -/
def isReservedCop0 (n : Reg) : Bool :=
  n == 7 || n == 21 || n == 22 || n == 23 || n == 24 || n == 25 || n == 31

/-- A 32-bit register as Cop0Read gives it. -/
def narrow (v : Word32) : Word := v.setWidth 64

/-- Cop0Read (spec/45_cop0.md R366; spec/10_state.md R42, R59, R60, R62). -/
def cop0Read (n : Reg) (s : State) : Word × State :=
  match n.toNat with
  | 0 => (narrow (indexWord s.cp0.index), s)
  | 1 => (narrow ((readRandom s).1.setWidth 32), (readRandom s).2)
  | 2 => (entryLoWord s.cp0.entryLo0, s)
  | 3 => (entryLoWord s.cp0.entryLo1, s)
  | 4 => (contextWord s.cp0.context, s)
  | 5 => (narrow (pageMaskWord s.cp0.pageMask), s)
  | 6 => (narrow (s.cp0.wired.setWidth 32), s)
  | 8 => (s.cp0.badVAddr, s)
  | 9 => (narrow s.cp0.count, s)
  | 10 => (entryHiWord s.cp0.entryHi, s)
  | 11 => (narrow s.cp0.compare, s)
  | 12 => (narrow s.cp0.status, s)
  | 13 => (narrow (causeWord s.cp0.cause), s)
  | 14 => (s.cp0.epc, s)
  | 15 => (narrow s.cp0.prid, s)
  | 16 => (narrow s.cp0.config, s)
  | 17 => (narrow s.cp0.llAddr, s)
  | 18 => (narrow s.cp0.watchLo, s)
  | 19 => (narrow (s.cp0.watchHi.setWidth 32), s)
  | 20 => (xcontextWord s.cp0.xcontext, s)
  | 26 => (narrow (s.cp0.parityError.setWidth 32), s)
  | 27 => (0, s)
  | 28 => (narrow s.cp0.tagLo, s)
  | 29 => (0, s)
  | 30 => (s.cp0.errorEpc, s)
  | _ => (drawn s, spendDraws 1 s)

/-- A write of Compare clears the timer request (spec/60_exceptions.md R501). -/
def writeCompare (onIp7 : Bool) (v : Word32) (s : State) : State :=
  if onIp7 then
    { s with cp0 := { s.cp0 with compare := v, cause := { s.cp0.cause with ip := s.cp0.cause.ip &&& 0x7F } } }
  else { s with timerCond := false, cp0 := { s.cp0 with compare := v } }

/-- The writable bits of Config (spec/10_state.md R55). -/
def configMask : Word32 := 0x0F00800F

/-- A write of Config, refused when it clears BE (spec/45_cop0.md R367; spec/20_memory.md R101). -/
def writeConfig (v : Word32) (s : State) : Res State := do
  let new := (s.cp0.config &&& ~~~configMask) ||| (v &&& configMask)
  require (new.getLsbD 15) (.refused .littleEndian)
  pure { s with cp0 := { s.cp0 with config := new } }

/-- Cop0Write under the masks and with the side effects of spec/45_cop0.md R367. -/
def cop0Write (n : Reg) (v : Word) (s : State) : Res State :=
  let c := s.cp0
  match n.toNat with
  | 0 => .ok { s with cp0 := { c with index := { p := v.getLsbD 31, index := v.extractLsb' 0 6 } } }
  | 2 => .ok { s with cp0 := { c with entryLo0 := entryLoOf v } }
  | 3 => .ok { s with cp0 := { c with entryLo1 := entryLoOf v } }
  | 4 => .ok { s with cp0 := { c with context := { c.context with pteBase := v.extractLsb' 23 41 } } }
  | 5 => .ok { s with cp0 := { c with pageMask := v.extractLsb' 13 12 } }
  | 6 => .ok { s with cp0 := { c with wired := v.extractLsb' 0 6, random := 31 } }
  | 9 => .ok { s with cp0 := { c with count := lowWord v } }
  | 10 => .ok { s with cp0 := { c with entryHi := entryHiOf v } }
  | 11 => .ok (writeCompare Config.timerOnIp7 (lowWord v) s)
  | 12 => .ok { s with cp0 := { c with status := lowWord v &&& statusMask } }
  | 13 => .ok { s with cp0 := { c with
      cause := { c.cause with ip := (c.cause.ip &&& 0xFC) ||| (v.extractLsb' 8 2).setWidth 8 } } }
  | 14 => .ok { s with cp0 := { c with epc := v } }
  | 16 => writeConfig (lowWord v) s
  | 17 => .ok { s with cp0 := { c with llAddr := lowWord v } }
  | 18 => .ok { s with cp0 := { c with watchLo := lowWord v &&& 0xFFFFFFFB } }
  | 19 => .ok { s with cp0 := { c with watchHi := v.extractLsb' 0 4 } }
  | 20 => .ok { s with cp0 := { c with xcontext := { c.xcontext with pteBase := v.extractLsb' 33 31 } } }
  | 26 => .ok { s with cp0 := { c with parityError := v.extractLsb' 0 8 } }
  | 28 => .ok { s with cp0 := { c with tagLo := lowWord v &&& 0x0FFFFFC0 } }
  | 30 => .ok { s with cp0 := { c with errorEpc := v } }
  | _ => .ok s

/-! ### Moves -/

/-- MFC0 (spec/45_cop0.md R366). -/
def execMfc0 (rt rd : Reg) (s : State) : Result :=
  complete s (do
    requireCop0 s
    let (v, t) := cop0Read rd s
    pure (writeGpr t rt (sextWord (lowWord v))))

/-- MTC0 (spec/45_cop0.md R367). -/
def execMtc0 (rt rd : Reg) (s : State) : Result :=
  complete s (do
    requireCop0 s
    cop0Write rd (sextWord (lowWord (readGpr s rt))) s)

/-- What DMFC0 reads: a free value of a register that has not 64 bits (spec/45_cop0.md R368; U23). -/
def dmfc0Read (n : Reg) (s : State) : Word × State :=
  if isWideCop0 n then cop0Read n s else (drawn s, spendDraws 1 s)

/-- DMFC0 (spec/45_cop0.md R368). -/
def execDmfc0 (rt rd : Reg) (s : State) : Result :=
  complete s (do
    requireCop0 s
    require64 s
    let (v, t) := dmfc0Read rd s
    pure (writeGpr t rt v))

/-- What DMTC0 writes; refused for a writable 32-bit register (spec/45_cop0.md R369; U24). -/
def dmtc0Write (n : Reg) (v : Word) (s : State) : Res State :=
  if isWideCop0 n then cop0Write n v s
  else if isReservedCop0 n || n == 1 || n == 15 || n == 27 || n == 29 then .ok s
  else refuse .dmtc0OfWordRegister

/-- DMTC0 (spec/45_cop0.md R369). -/
def execDmtc0 (rt rd : Reg) (s : State) : Result :=
  complete s (do
    requireCop0 s
    require64 s
    dmtc0Write rd (readGpr s rt) s)

/-! ### TLB instructions -/

/-- TLBEntryFromRegs (spec/45_cop0.md R371). -/
def entryFromRegs (c : Cp0) : TlbEntry :=
  { mask := c.pageMask
    r := c.entryHi.r
    vpn2 := c.entryHi.vpn2
    asid := c.entryHi.asid
    g := c.entryLo0.g && c.entryLo1.g
    page0 := c.entryLo0.page
    page1 := c.entryLo1.page }

/-- The registers TLBR writes from an entry (spec/45_cop0.md R370). -/
def regsFromEntry (e : TlbEntry) (c : Cp0) : Cp0 :=
  { c with
    pageMask := e.mask
    entryHi := { r := e.r, vpn2 := e.vpn2 &&& ~~~(e.mask.setWidth 27), asid := e.asid }
    entryLo0 := { page := e.page0, g := e.g }
    entryLo1 := { page := e.page1, g := e.g } }

/-- Entry `i` of the TLB, refused above 31 (spec/10_state.md R41). -/
def readTlb (i : BitVec 6) (s : State) : Res TlbEntry :=
  match s.tlb[i.toNat]? with
  | some e => .ok e
  | none => refuse .indexOutOfRange

/-- TLBR (spec/45_cop0.md R370). -/
def execTlbr (s : State) : Result :=
  complete s (do
    requireCop0 s
    let e ← readTlb s.cp0.index.index s
    pure { s with cp0 := regsFromEntry e s.cp0 })

/-- TLBWI (spec/45_cop0.md R371). -/
def execTlbwi (s : State) : Result :=
  complete s (do
    requireCop0 s
    require (decide (s.cp0.index.index.toNat ≤ 31)) (.refused .indexOutOfRange)
    pure { s with tlb := s.tlb.setIfInBounds s.cp0.index.index.toNat (entryFromRegs s.cp0) })

/-- TLBWR (spec/45_cop0.md R372). -/
def execTlbwr (s : State) : Result :=
  complete s (do
    requireCop0 s
    require (decide (s.cp0.wired.toNat ≤ 31)) (.refused .wiredOutOfRange)
    let (i, t) := readRandom s
    pure { t with tlb := t.tlb.setIfInBounds i.toNat (entryFromRegs s.cp0) })

/-- TLBP (spec/45_cop0.md R373). -/
def execTlbp (s : State) : Result :=
  complete s (do
    requireCop0 s
    match matchingEntries s s.cp0.entryHi.r s.cp0.entryHi.vpn2 s.cp0.entryHi.asid with
    | [] => pure (spendDraws 1 { s with cp0 := { s.cp0 with
        index := { p := true, index := (drawn s).extractLsb' 0 6 } } })
    | [i] => pure { s with cp0 := { s.cp0 with index := { p := false, index := BitVec.ofNat 6 i.val } } }
    | _ => refuse .multipleTlbMatch)

/-! ### Exception return -/

/-- ERET: no delay slot, and refused in one (spec/45_cop0.md R374; spec/10_state.md R28). -/
def execEret (s : State) : Result :=
  finish s (do
    requireCop0 s
    require s.delay.isNone (.refused .branchInDelaySlot)
    pure (returnFromException s))

end Sys2Proof.Machine
end

