-- ==== Sys2Proof/Machine/FpNumerics.lean ====
section
/-! DEFINITION. FpNumerics: the value and cause of each floating-point operation, the reference definition of
spec/47_fpu_arith.md (R392, R396, R414 to R436) over the formats of spec/46_fpu.md R393.
FpNumerics is an open parameter of the spec; installing the reference definition is log 14, unsafe.
Every operation converts its operands to an exact sign, significand and exponent, computes exactly, and rounds once. -/

namespace Sys2Proof.Machine

/-! ### Formats and classes (spec/46_fpu.md R393) -/

/-- The two floating-point formats. -/
inductive Fmt where
  | single
  | double
deriving DecidableEq, Repr

/-- p, the precision. -/
def Fmt.precision : Fmt → Nat
  | .single => 24
  | .double => 53

/-- The number of exponent bits. -/
def Fmt.expBits : Fmt → Nat
  | .single => 8
  | .double => 11

/-- The exponent field of infinities and NaNs. -/
def Fmt.expOnes : Fmt → Nat
  | .single => 255
  | .double => 2047

/-- emax, which is also the bias. -/
def Fmt.emax : Fmt → Int
  | .single => 127
  | .double => 1023

/-- emin. -/
def Fmt.emin : Fmt → Int
  | .single => -126
  | .double => -1022

/-- The sign bit of a pattern; a single stands in the low word. -/
def fpSign (f : Fmt) (v : Word) : Bool :=
  match f with
  | .single => v.getLsbD 31
  | .double => v.getLsbD 63

/-- The exponent field. -/
def fpExp (f : Fmt) (v : Word) : Nat :=
  match f with
  | .single => (v.extractLsb' 23 8).toNat
  | .double => (v.extractLsb' 52 11).toNat

/-- The fraction field. -/
def fpFrac (f : Fmt) (v : Word) : Nat :=
  match f with
  | .single => (v.extractLsb' 0 23).toNat
  | .double => (v.extractLsb' 0 52).toNat

/-- The bits without the sign, as a number: it orders the non-negative values. -/
def fpMagnitude (f : Fmt) (v : Word) : Nat :=
  match f with
  | .single => (v.extractLsb' 0 31).toNat
  | .double => (v.extractLsb' 0 63).toNat

/-- The classes of value. -/
inductive FpClass where
  | zero
  | denormal
  | normal
  | infinity
  | snan
  | qnan
deriving DecidableEq, Repr

/-- The class of a pattern; a set top fraction bit is signalling (spec/46_fpu.md R393). -/
def fpClass (f : Fmt) (v : Word) : FpClass :=
  if fpExp f v = 0 then
    if fpFrac f v = 0 then .zero else .denormal
  else if fpExp f v = f.expOnes then
    if fpFrac f v = 0 then .infinity
    else if 2 ^ (f.precision - 2) ≤ fpFrac f v then .snan
    else .qnan
  else .normal

/-- Build a pattern from sign, exponent field and fraction field. -/
def fpPack (f : Fmt) (neg : Bool) (e frac : Nat) : Word :=
  let sign := if neg then 2 ^ (f.precision - 1 + f.expBits) else 0
  BitVec.ofNat 64 (sign + e * 2 ^ (f.precision - 1) + frac)

/-- A zero of a sign. -/
def fpZero (f : Fmt) (neg : Bool) : Word := fpPack f neg 0 0
/-- An infinity of a sign. -/
def fpInfinity (f : Fmt) (neg : Bool) : Word := fpPack f neg f.expOnes 0
/-- The largest finite number of a sign (spec/47_fpu_arith.md R396). -/
def fpLargest (f : Fmt) (neg : Bool) : Word := fpPack f neg (f.expOnes - 1) (2 ^ (f.precision - 1) - 1)
/-- 2^emin of a sign (spec/47_fpu_arith.md R396). -/
def fpSmallestNormal (f : Fmt) (neg : Bool) : Word := fpPack f neg 1 0

/-- The default quiet NaN (spec/46_fpu.md R393). -/
def fpDefaultNan : Fmt → Word
  | .single => 0x7FBFFFFF
  | .double => 0x7FF7FFFFFFFFFFFF

/-! ### Results (spec/47_fpu_arith.md R392) -/

/-- The environment: FCR31.RM, FS and Enable. -/
structure FpEnv where
  rm     : BitVec 2
  fs     : Bool
  enable : BitVec 5
deriving DecidableEq, Repr

/-- A value and the causes E V Z O U I; a 32-bit value stands in the low word. -/
structure FpResult where
  value : Word
  cause : BitVec 6
deriving DecidableEq, Repr

/-- Unimplemented Operation (spec/46_fpu.md R395). -/
def causeE : BitVec 6 := 0b100000
/-- Invalid operation. -/
def causeV : BitVec 6 := 0b010000
/-- Division by zero. -/
def causeZ : BitVec 6 := 0b001000
/-- Overflow. -/
def causeO : BitVec 6 := 0b000100
/-- Underflow. -/
def causeU : BitVec 6 := 0b000010
/-- Inexact. -/
def causeI : BitVec 6 := 0b000001

/-- An exact result. -/
def fpExact (v : Word) : FpResult := { value := v, cause := 0 }
/-- Unimplemented Operation: no value. -/
def fpUnimplementedResult : FpResult := { value := 0, cause := causeE }
/-- Invalid operation with the default quiet NaN of the destination. -/
def fpInvalid (f : Fmt) : FpResult := { value := fpDefaultNan f, cause := causeV }

/-! ### Exact finite values -/

/-- An exact finite value: `(-1)^neg * sig * 2^exp`, and a little more in magnitude when `sticky`. -/
structure FpExactValue where
  neg    : Bool
  sig    : Nat
  exp    : Int
  sticky : Bool
deriving DecidableEq, Repr

/-- The exact value of a zero or normal number (spec/46_fpu.md R393). -/
def fpValue (f : Fmt) (v : Word) : FpExactValue :=
  { neg := fpSign f v
    sig := if fpExp f v = 0 then 0 else 2 ^ (f.precision - 1) + fpFrac f v
    exp := (fpExp f v : Int) - f.emax - (f.precision - 1 : Nat)
    sticky := false }

/-- Does a rounding of direction `rm` move a magnitude away from zero? `odd` is the last kept bit, `rem` what was cut
off `half * 2`, `sticky` whether more lies below (spec/47_fpu_arith.md R396). -/
def roundsAway (rm : BitVec 2) (neg odd : Bool) (rem half : Nat) (sticky : Bool) : Bool :=
  let inexact := decide (rem ≠ 0) || sticky
  if rm = 0 then decide (half < rem) || (decide (rem = half) && (sticky || odd))
  else if rm = 1 then false
  else if rm = 2 then inexact && !neg
  else inexact && neg

/-- The value of an overflow (spec/47_fpu_arith.md R396). -/
def overflowValue (f : Fmt) (rm : BitVec 2) (neg : Bool) : Word :=
  if rm = 0 then fpInfinity f neg
  else if rm = 1 then fpLargest f neg
  else if rm = 2 then (if neg then fpLargest f true else fpInfinity f false)
  else (if neg then fpInfinity f true else fpLargest f false)

/-- The value of a flushed tiny result (spec/47_fpu_arith.md R396). -/
def tinyValue (f : Fmt) (rm : BitVec 2) (neg : Bool) : Word :=
  if rm = 2 then (if neg then fpZero f true else fpSmallestNormal f false)
  else if rm = 3 then (if neg then fpSmallestNormal f true else fpZero f false)
  else fpZero f neg

/-- RoundPack of a nonzero exact value (spec/47_fpu_arith.md R396). A sticky value has at least p + 2 significant bits. -/
def roundPack (f : Fmt) (env : FpEnv) (x : FpExactValue) : FpResult :=
  let p := f.precision
  let len := Nat.log2 x.sig + 1
  let e : Int := x.exp + len - 1
  if e < f.emin then
    if !env.fs || env.enable.getLsbD 1 || env.enable.getLsbD 0 then fpUnimplementedResult
    else { value := tinyValue f env.rm x.neg, cause := causeU ||| causeI }
  else
    let cut := len - p
    let kept := if p < len then x.sig >>> cut else x.sig <<< (p - len)
    let rem := if p < len then x.sig % 2 ^ cut else 0
    let half := if p < len then 2 ^ (cut - 1) else 1
    let inexact := decide (rem ≠ 0) || x.sticky
    let away := roundsAway env.rm x.neg (kept % 2 == 1) rem half x.sticky
    let rounded := if away then kept + 1 else kept
    let carry := rounded == 2 ^ p
    let e' : Int := if carry then e + 1 else e
    let sig := if carry then 2 ^ (p - 1) else rounded
    if f.emax < e' then { value := overflowValue f env.rm x.neg, cause := causeO ||| causeI }
    else { value := fpPack f x.neg (e' + f.emax).toNat (sig - 2 ^ (p - 1))
           cause := if inexact then causeI else 0 }

/-- The operand check of one operand, for a destination format (spec/47_fpu_arith.md R414). -/
def checkOperand (f dst : Fmt) (v : Word) : Option FpResult :=
  match fpClass f v with
  | .denormal => some fpUnimplementedResult
  | .qnan => some fpUnimplementedResult
  | .snan => some (fpInvalid dst)
  | _ => none

/-- The operand check of two operands, fs first (spec/47_fpu_arith.md R414). -/
def checkOperands (f : Fmt) (a b : Word) : Option FpResult :=
  match checkOperand f f a with
  | some r => some r
  | none => checkOperand f f b

/-- An operand is infinite. -/
def isInf (f : Fmt) (v : Word) : Bool := fpClass f v == .infinity
/-- An operand is a zero. -/
def isZero (f : Fmt) (v : Word) : Bool := fpClass f v == .zero

/-- The significand and sign of an exact value, as an integer scaled to the exponent `e ≤ x.exp`. -/
def scaledTo (e : Int) (x : FpExactValue) : Int :=
  let m : Int := (x.sig <<< (x.exp - e).toNat : Nat)
  if x.neg then -m else m

/-- The sum of two checked operands (spec/47_fpu_arith.md R415). -/
def fpSum (f : Fmt) (env : FpEnv) (a b : Word) : FpResult :=
  if isInf f a && isInf f b then
    if fpSign f a == fpSign f b then fpExact a else fpInvalid f
  else if isInf f a then fpExact a
  else if isInf f b then fpExact b
  else if isZero f a && isZero f b && fpSign f a == fpSign f b then fpExact a
  else
    let x := fpValue f a
    let y := fpValue f b
    let e := min x.exp y.exp
    let sum := scaledTo e x + scaledTo e y
    if sum = 0 then fpExact (fpZero f (env.rm == 3))
    else roundPack f env { neg := decide (sum < 0), sig := sum.natAbs, exp := e, sticky := false }

/-- The sign bit inverted. -/
def fpNegate (f : Fmt) (v : Word) : Word :=
  match f with
  | .single => v ^^^ 0x80000000
  | .double => v ^^^ 0x8000000000000000

/-- The sign bit cleared. -/
def fpClearSign (f : Fmt) (v : Word) : Word :=
  match f with
  | .single => v &&& 0x7FFFFFFF
  | .double => v &&& 0x7FFFFFFFFFFFFFFF

/-- FpNumerics.add (spec/47_fpu_arith.md R415). -/
def fpAdd (f : Fmt) (env : FpEnv) (a b : Word) : FpResult :=
  match checkOperands f a b with
  | some r => r
  | none => fpSum f env a b

/-- FpNumerics.sub (spec/47_fpu_arith.md R416). -/
def fpSub (f : Fmt) (env : FpEnv) (a b : Word) : FpResult :=
  match checkOperands f a b with
  | some r => r
  | none => fpSum f env a (fpNegate f b)

/-- FpNumerics.mul (spec/47_fpu_arith.md R417). -/
def fpMul (f : Fmt) (env : FpEnv) (a b : Word) : FpResult :=
  match checkOperands f a b with
  | some r => r
  | none =>
    let neg := fpSign f a != fpSign f b
    if (isInf f a && isZero f b) || (isZero f a && isInf f b) then fpInvalid f
    else if isInf f a || isInf f b then fpExact (fpInfinity f neg)
    else if isZero f a || isZero f b then fpExact (fpZero f neg)
    else
      let x := fpValue f a
      let y := fpValue f b
      roundPack f env { neg := neg, sig := x.sig * y.sig, exp := x.exp + y.exp, sticky := false }

/-- FpNumerics.div (spec/47_fpu_arith.md R418). -/
def fpDiv (f : Fmt) (env : FpEnv) (a b : Word) : FpResult :=
  match checkOperands f a b with
  | some r => r
  | none =>
    let neg := fpSign f a != fpSign f b
    if (isInf f a && isInf f b) || (isZero f a && isZero f b) then fpInvalid f
    else if isInf f a then fpExact (fpInfinity f neg)
    else if isInf f b || isZero f a then fpExact (fpZero f neg)
    else if isZero f b then { value := fpInfinity f neg, cause := causeZ }
    else
      let x := fpValue f a
      let y := fpValue f b
      let k := f.precision + 3
      let n := x.sig <<< k
      roundPack f env
        { neg := neg, sig := n / y.sig, exp := x.exp - y.exp - k, sticky := decide (n % y.sig ≠ 0) }

/-- The integer square root of `n < 4^bits`, found bit by bit from the top; `r` is the part found so far. -/
def isqrt (n : Nat) : (bits r : Nat) → Nat
  | 0, r => r
  | bits + 1, r =>
    let c := r + 2 ^ bits
    isqrt n bits (if c * c ≤ n then c else r)

/-- FpNumerics.sqrt (spec/47_fpu_arith.md R419). -/
def fpSqrt (f : Fmt) (env : FpEnv) (a : Word) : FpResult :=
  match checkOperand f f a with
  | some r => r
  | none =>
    if isZero f a then fpExact a
    else if fpSign f a then fpInvalid f
    else if isInf f a then fpExact a
    else
      let x := fpValue f a
      let odd := x.exp % 2 ≠ 0
      let sig := if odd then x.sig * 2 else x.sig
      let exp := if odd then x.exp - 1 else x.exp
      let k := f.precision
      let n := sig <<< (2 * k)
      let r := isqrt n (2 * k) 0
      roundPack f env { neg := false, sig := r, exp := exp / 2 - k, sticky := decide (r * r ≠ n) }

/-- FpNumerics.abs (spec/47_fpu_arith.md R420). -/
def fpAbs (f : Fmt) (_ : FpEnv) (a : Word) : FpResult :=
  match checkOperand f f a with
  | some r => r
  | none => fpExact (fpClearSign f a)

/-- FpNumerics.neg (spec/47_fpu_arith.md R422). -/
def fpNeg (f : Fmt) (_ : FpEnv) (a : Word) : FpResult :=
  match checkOperand f f a with
  | some r => r
  | none => fpExact (fpNegate f a)

/-! ### Conversions -/

/-- The magnitude of an exact value rounded to an integer, and whether that was inexact (spec/47_fpu_arith.md R423). -/
def roundToInt (mode : BitVec 2) (x : FpExactValue) : Nat × Bool :=
  if 0 ≤ x.exp then (x.sig <<< x.exp.toNat, false)
  else
    let cut := (-x.exp).toNat
    let kept := x.sig >>> cut
    let rem := x.sig % 2 ^ cut
    let away := roundsAway mode x.neg (kept % 2 == 1) rem (2 ^ (cut - 1)) false
    (if away then kept + 1 else kept, decide (rem ≠ 0))

/-- The operands a conversion to fixed point accepts (spec/47_fpu_arith.md R423). -/
def fixedPointSource (f : Fmt) (a : Word) : Bool :=
  fpClass f a == .zero || fpClass f a == .normal

/-- The rounded integer with its sign. -/
def signedInt (neg : Bool) (n : Nat) : Int := if neg then -(n : Int) else n

/-- FpNumerics.to_w (spec/47_fpu_arith.md R423). -/
def fpToW (f : Fmt) (mode : BitVec 2) (a : Word) : FpResult :=
  if !fixedPointSource f a then fpUnimplementedResult
  else
    let (m, inexact) := roundToInt mode (fpValue f a)
    let n := signedInt (fpSign f a) m
    if n < -(2 ^ 31) ∨ 2 ^ 31 ≤ n then fpUnimplementedResult
    else { value := (BitVec.ofInt 32 n).setWidth 64, cause := if inexact then causeI else 0 }

/-- FpNumerics.to_l (spec/47_fpu_arith.md R423). -/
def fpToL (f : Fmt) (mode : BitVec 2) (a : Word) : FpResult :=
  if !fixedPointSource f a then fpUnimplementedResult
  else if 2 ^ 53 ≤ (roundToInt 1 (fpValue f a)).1 then fpUnimplementedResult
  else
    let (m, inexact) := roundToInt mode (fpValue f a)
    { value := BitVec.ofInt 64 (signedInt (fpSign f a) m), cause := if inexact then causeI else 0 }

/-- A signed integer to a floating-point format; 0 gives +0, which R432 says of CVT.S and the model takes for CVT.D too
(spec/47_fpu_arith.md R432, R433; PRESUMED, log 41). -/
def fpOfInt (dst : Fmt) (env : FpEnv) (x : Int) : FpResult :=
  if x = 0 then fpExact (fpZero dst false)
  else roundPack dst env { neg := decide (x < 0), sig := x.natAbs, exp := 0, sticky := false }

/-- A floating-point format to the other one (spec/47_fpu_arith.md R432, R433). -/
def fpToFmt (src dst : Fmt) (env : FpEnv) (a : Word) : FpResult :=
  match checkOperand src dst a with
  | some r => r
  | none =>
    if isInf src a then fpExact (fpInfinity dst (fpSign src a))
    else if isZero src a then fpExact (fpZero dst (fpSign src a))
    else roundPack dst env (fpValue src a)

/-- From W, the low word of the operand (spec/47_fpu_arith.md R432, R433). -/
def fpOfW (dst : Fmt) (env : FpEnv) (a : Word) : FpResult := fpOfInt dst env (a.setWidth 32).toInt

/-- From L, unimplemented outside -2^55 .. 2^55 - 1 (spec/47_fpu_arith.md R432, R433). -/
def fpOfL (dst : Fmt) (env : FpEnv) (a : Word) : FpResult :=
  if a.toInt < -(2 ^ 55) ∨ 2 ^ 55 ≤ a.toInt then fpUnimplementedResult else fpOfInt dst env a.toInt

/-! ### Compare (spec/47_fpu_arith.md R435) -/

/-- A pattern is a NaN. -/
def isNan (f : Fmt) (v : Word) : Bool := fpClass f v == .snan || fpClass f v == .qnan
/-- A pattern is a signalling NaN. -/
def isSnan (f : Fmt) (v : Word) : Bool := fpClass f v == .snan

/-- A number that orders the values of a format: equal for +0 and -0. -/
def fpOrder (f : Fmt) (v : Word) : Int :=
  if fpSign f v then -(fpMagnitude f v : Int) else fpMagnitude f v

/-- The condition and cause of C.cond.fmt; the condition stands in bit 0 of the value. -/
def fpCompare (f : Fmt) (cond : BitVec 4) (a b : Word) : FpResult :=
  let unordered := isNan f a || isNan f b
  let less := !unordered && decide (fpOrder f a < fpOrder f b)
  let equal := !unordered && decide (fpOrder f a = fpOrder f b)
  let invalid := unordered && (isSnan f a || isSnan f b || cond.getLsbD 3)
  let c := (cond.getLsbD 2 && less) || (cond.getLsbD 1 && equal) || (cond.getLsbD 0 && unordered)
  { value := if c then 1 else 0, cause := if invalid then causeV else 0 }

end Sys2Proof.Machine
end

