-- ==== Sys2Proof/Machine/FpArith.lean ====
section
/-! DEFINITION. Floating-point arithmetic, conversion and compare: which registers are read and written, and FpFinish
(spec/46_fpu.md R391, R394; spec/47_fpu_arith.md R415 to R436). The numbers are Machine/FpNumerics.lean. -/

namespace Sys2Proof.Machine

/-! ### Shared operations -/

/-- The operand formats (spec/30_encoding.md R172). -/
inductive OpFmt where
  | s | d | w | l
deriving DecidableEq, Repr

/-- The environment of an operation (spec/47_fpu_arith.md R392). -/
def fpEnv (s : State) : FpEnv :=
  { rm := fcrRm s.fcr31, fs := fcrFs s.fcr31, enable := fcrEnable s.fcr31 }

/-- An operand by its format; a 32-bit one stands in the low word (spec/46_fpu.md R391). -/
def readFp (fmt : OpFmt) (s : State) (i : Reg) : Word :=
  match fmt with
  | .s | .w => (readF32 s i).setWidth 64
  | .d | .l => cell s i

/-- A result by its format (spec/46_fpu.md R391). -/
def writeFp (fmt : OpFmt) (i : Reg) (v : Word) (s : State) : State :=
  match fmt with
  | .s | .w => writeF32 s i (lowWord v)
  | .d | .l => writeCell s i v

/-- FpFinish and retiring: the new Cause, then either the Floating-Point exception, with the destination and the flags
unchanged, or the flags and the write (spec/46_fpu.md R394). -/
def fpFinish (r : FpResult) (write : Word → State → State) (s : State) : State :=
  let f := fcrSetCause s.fcr31 r.cause
  if fcrTraps r.cause (fcrEnable s.fcr31) then takeException .floatingPoint { s with fcr31 := f }
  else retire (write r.value { s with fcr31 := fcrAddFlags f r.cause })

/-- An operation of one operand: usability, register validity, the numerics, FpFinish
(spec/46_fpu.md R390, R391, R394). -/
def fpUnary (src dst : OpFmt) (op : FpEnv → Word → FpResult) (fs fd : Reg) (s : State) : Result :=
  finish s (do
    requireCop1 s
    requireFloat s fs
    requireFloat s fd
    pure (fpFinish (op (fpEnv s) (readFp src s fs)) (writeFp dst fd) s))

/-- An operation of two operands (spec/46_fpu.md R390, R391, R394). -/
def fpBinary (fmt : OpFmt) (op : FpEnv → Word → Word → FpResult) (ft fs fd : Reg) (s : State) : Result :=
  finish s (do
    requireCop1 s
    requireFloat s fs
    requireFloat s ft
    requireFloat s fd
    pure (fpFinish (op (fpEnv s) (readFp fmt s fs) (readFp fmt s ft)) (writeFp fmt fd) s))

/-- The condition bit written from a compare's value. -/
def writeCond (v : Word) (s : State) : State := { s with fcr31 := fcrSetCond s.fcr31 (v == 1) }

/-- A compare: FpFinish writes FCR31.C (spec/47_fpu_arith.md R435). -/
def fpCompareOp (fmt : OpFmt) (f : Fmt) (cond : BitVec 4) (ft fs : Reg) (s : State) : Result :=
  finish s (do
    requireCop1 s
    requireFloat s fs
    requireFloat s ft
    pure (fpFinish (fpCompare f cond (readFp fmt s fs) (readFp fmt s ft)) writeCond s))

/-- MOV.fmt: a bit copy; the six Cause bits of FCR31 become free values, as U31 treats them, and the rest of FCR31
stays; a double in an odd register with FR = 0 is refused (spec/47_fpu_arith.md R421; spec/46_fpu.md R391;
spec/93_implementation_defined.md U31; log 26). -/
def fpMove (fmt : OpFmt) (fs fd : Reg) (s : State) : Result :=
  complete s (do
    requireCop1 s
    require (fmt == .s || (validF64 s fs && validF64 s fd)) (.refused .oddFloatRegister)
    let t := spendDraws 1 { s with fcr31 := fcrSetCause s.fcr31 ((drawn s).extractLsb' 0 6) }
    pure (writeFp fmt fd (readFp fmt s fs) t))

/-- The unimplemented format and function pairs: Cause E and the exception, no register read or written
(spec/46_fpu.md R395). -/
def fpUnimplementedOp (s : State) : Result :=
  finish s (do
    requireCop1 s
    pure (takeException .floatingPoint { s with fcr31 := fcrSetCause s.fcr31 causeE }))

/-! ### The instructions -/

/-- ADD.S (spec/47_fpu_arith.md R415). -/
def execAddS (ft fs fd : Reg) (s : State) : Result :=
  fpBinary .s (fpAdd .single) ft fs fd s

/-- ADD.D (spec/47_fpu_arith.md R415). -/
def execAddD (ft fs fd : Reg) (s : State) : Result :=
  fpBinary .d (fpAdd .double) ft fs fd s

/-- SUB.S (spec/47_fpu_arith.md R416). -/
def execSubS (ft fs fd : Reg) (s : State) : Result :=
  fpBinary .s (fpSub .single) ft fs fd s

/-- SUB.D (spec/47_fpu_arith.md R416). -/
def execSubD (ft fs fd : Reg) (s : State) : Result :=
  fpBinary .d (fpSub .double) ft fs fd s

/-- MUL.S (spec/47_fpu_arith.md R417). -/
def execMulS (ft fs fd : Reg) (s : State) : Result :=
  fpBinary .s (fpMul .single) ft fs fd s

/-- MUL.D (spec/47_fpu_arith.md R417). -/
def execMulD (ft fs fd : Reg) (s : State) : Result :=
  fpBinary .d (fpMul .double) ft fs fd s

/-- DIV.S (spec/47_fpu_arith.md R418). -/
def execDivS (ft fs fd : Reg) (s : State) : Result :=
  fpBinary .s (fpDiv .single) ft fs fd s

/-- DIV.D (spec/47_fpu_arith.md R418). -/
def execDivD (ft fs fd : Reg) (s : State) : Result :=
  fpBinary .d (fpDiv .double) ft fs fd s

/-- SQRT.S (spec/47_fpu_arith.md R419). -/
def execSqrtS (fs fd : Reg) (s : State) : Result :=
  fpUnary .s .s (fpSqrt .single) fs fd s

/-- SQRT.D (spec/47_fpu_arith.md R419). -/
def execSqrtD (fs fd : Reg) (s : State) : Result :=
  fpUnary .d .d (fpSqrt .double) fs fd s

/-- ABS.S (spec/47_fpu_arith.md R420). -/
def execAbsS (fs fd : Reg) (s : State) : Result :=
  fpUnary .s .s (fpAbs .single) fs fd s

/-- ABS.D (spec/47_fpu_arith.md R420). -/
def execAbsD (fs fd : Reg) (s : State) : Result :=
  fpUnary .d .d (fpAbs .double) fs fd s

/-- MOV.S (spec/47_fpu_arith.md R421). -/
def execMovS (fs fd : Reg) (s : State) : Result :=
  fpMove .s fs fd s

/-- MOV.D (spec/47_fpu_arith.md R421). -/
def execMovD (fs fd : Reg) (s : State) : Result :=
  fpMove .d fs fd s

/-- NEG.S (spec/47_fpu_arith.md R422). -/
def execNegS (fs fd : Reg) (s : State) : Result :=
  fpUnary .s .s (fpNeg .single) fs fd s

/-- NEG.D (spec/47_fpu_arith.md R422). -/
def execNegD (fs fd : Reg) (s : State) : Result :=
  fpUnary .d .d (fpNeg .double) fs fd s

/-- ROUND.L.S (spec/47_fpu_arith.md R424). -/
def execRoundLS (fs fd : Reg) (s : State) : Result :=
  fpUnary .s .l (fun _ => fpToL .single 0) fs fd s

/-- ROUND.L.D (spec/47_fpu_arith.md R424). -/
def execRoundLD (fs fd : Reg) (s : State) : Result :=
  fpUnary .d .l (fun _ => fpToL .double 0) fs fd s

/-- TRUNC.L.S (spec/47_fpu_arith.md R425). -/
def execTruncLS (fs fd : Reg) (s : State) : Result :=
  fpUnary .s .l (fun _ => fpToL .single 1) fs fd s

/-- TRUNC.L.D (spec/47_fpu_arith.md R425). -/
def execTruncLD (fs fd : Reg) (s : State) : Result :=
  fpUnary .d .l (fun _ => fpToL .double 1) fs fd s

/-- CEIL.L.S (spec/47_fpu_arith.md R426). -/
def execCeilLS (fs fd : Reg) (s : State) : Result :=
  fpUnary .s .l (fun _ => fpToL .single 2) fs fd s

/-- CEIL.L.D (spec/47_fpu_arith.md R426). -/
def execCeilLD (fs fd : Reg) (s : State) : Result :=
  fpUnary .d .l (fun _ => fpToL .double 2) fs fd s

/-- FLOOR.L.S (spec/47_fpu_arith.md R427). -/
def execFloorLS (fs fd : Reg) (s : State) : Result :=
  fpUnary .s .l (fun _ => fpToL .single 3) fs fd s

/-- FLOOR.L.D (spec/47_fpu_arith.md R427). -/
def execFloorLD (fs fd : Reg) (s : State) : Result :=
  fpUnary .d .l (fun _ => fpToL .double 3) fs fd s

/-- ROUND.W.S (spec/47_fpu_arith.md R428). -/
def execRoundWS (fs fd : Reg) (s : State) : Result :=
  fpUnary .s .w (fun _ => fpToW .single 0) fs fd s

/-- ROUND.W.D (spec/47_fpu_arith.md R428). -/
def execRoundWD (fs fd : Reg) (s : State) : Result :=
  fpUnary .d .w (fun _ => fpToW .double 0) fs fd s

/-- TRUNC.W.S (spec/47_fpu_arith.md R429). -/
def execTruncWS (fs fd : Reg) (s : State) : Result :=
  fpUnary .s .w (fun _ => fpToW .single 1) fs fd s

/-- TRUNC.W.D (spec/47_fpu_arith.md R429). -/
def execTruncWD (fs fd : Reg) (s : State) : Result :=
  fpUnary .d .w (fun _ => fpToW .double 1) fs fd s

/-- CEIL.W.S (spec/47_fpu_arith.md R430). -/
def execCeilWS (fs fd : Reg) (s : State) : Result :=
  fpUnary .s .w (fun _ => fpToW .single 2) fs fd s

/-- CEIL.W.D (spec/47_fpu_arith.md R430). -/
def execCeilWD (fs fd : Reg) (s : State) : Result :=
  fpUnary .d .w (fun _ => fpToW .double 2) fs fd s

/-- FLOOR.W.S (spec/47_fpu_arith.md R431). -/
def execFloorWS (fs fd : Reg) (s : State) : Result :=
  fpUnary .s .w (fun _ => fpToW .single 3) fs fd s

/-- FLOOR.W.D (spec/47_fpu_arith.md R431). -/
def execFloorWD (fs fd : Reg) (s : State) : Result :=
  fpUnary .d .w (fun _ => fpToW .double 3) fs fd s

/-- CVT.S.D (spec/47_fpu_arith.md R432). -/
def execCvtSD (fs fd : Reg) (s : State) : Result :=
  fpUnary .d .s (fpToFmt .double .single) fs fd s

/-- CVT.S.W (spec/47_fpu_arith.md R432). -/
def execCvtSW (fs fd : Reg) (s : State) : Result :=
  fpUnary .w .s (fpOfW .single) fs fd s

/-- CVT.S.L (spec/47_fpu_arith.md R432). -/
def execCvtSL (fs fd : Reg) (s : State) : Result :=
  fpUnary .l .s (fpOfL .single) fs fd s

/-- CVT.D.S (spec/47_fpu_arith.md R433). -/
def execCvtDS (fs fd : Reg) (s : State) : Result :=
  fpUnary .s .d (fpToFmt .single .double) fs fd s

/-- CVT.D.W (spec/47_fpu_arith.md R433). -/
def execCvtDW (fs fd : Reg) (s : State) : Result :=
  fpUnary .w .d (fpOfW .double) fs fd s

/-- CVT.D.L (spec/47_fpu_arith.md R433). -/
def execCvtDL (fs fd : Reg) (s : State) : Result :=
  fpUnary .l .d (fpOfL .double) fs fd s

/-- CVT.W.S (spec/47_fpu_arith.md R434). -/
def execCvtWS (fs fd : Reg) (s : State) : Result :=
  fpUnary .s .w (fun env => fpToW .single env.rm) fs fd s

/-- CVT.W.D (spec/47_fpu_arith.md R434). -/
def execCvtWD (fs fd : Reg) (s : State) : Result :=
  fpUnary .d .w (fun env => fpToW .double env.rm) fs fd s

/-- CVT.L.S (spec/47_fpu_arith.md R436). -/
def execCvtLS (fs fd : Reg) (s : State) : Result :=
  fpUnary .s .l (fun env => fpToL .single env.rm) fs fd s

/-- CVT.L.D (spec/47_fpu_arith.md R436). -/
def execCvtLD (fs fd : Reg) (s : State) : Result :=
  fpUnary .d .l (fun env => fpToL .double env.rm) fs fd s

/-- C.F.S (spec/47_fpu_arith.md R435). -/
def execCFS (ft fs : Reg) (s : State) : Result :=
  fpCompareOp .s .single 0 ft fs s

/-- C.UN.S (spec/47_fpu_arith.md R435). -/
def execCUnS (ft fs : Reg) (s : State) : Result :=
  fpCompareOp .s .single 1 ft fs s

/-- C.EQ.S (spec/47_fpu_arith.md R435). -/
def execCEqS (ft fs : Reg) (s : State) : Result :=
  fpCompareOp .s .single 2 ft fs s

/-- C.UEQ.S (spec/47_fpu_arith.md R435). -/
def execCUeqS (ft fs : Reg) (s : State) : Result :=
  fpCompareOp .s .single 3 ft fs s

/-- C.OLT.S (spec/47_fpu_arith.md R435). -/
def execCOltS (ft fs : Reg) (s : State) : Result :=
  fpCompareOp .s .single 4 ft fs s

/-- C.ULT.S (spec/47_fpu_arith.md R435). -/
def execCUltS (ft fs : Reg) (s : State) : Result :=
  fpCompareOp .s .single 5 ft fs s

/-- C.OLE.S (spec/47_fpu_arith.md R435). -/
def execCOleS (ft fs : Reg) (s : State) : Result :=
  fpCompareOp .s .single 6 ft fs s

/-- C.ULE.S (spec/47_fpu_arith.md R435). -/
def execCUleS (ft fs : Reg) (s : State) : Result :=
  fpCompareOp .s .single 7 ft fs s

/-- C.SF.S (spec/47_fpu_arith.md R435). -/
def execCSfS (ft fs : Reg) (s : State) : Result :=
  fpCompareOp .s .single 8 ft fs s

/-- C.NGLE.S (spec/47_fpu_arith.md R435). -/
def execCNgleS (ft fs : Reg) (s : State) : Result :=
  fpCompareOp .s .single 9 ft fs s

/-- C.SEQ.S (spec/47_fpu_arith.md R435). -/
def execCSeqS (ft fs : Reg) (s : State) : Result :=
  fpCompareOp .s .single 10 ft fs s

/-- C.NGL.S (spec/47_fpu_arith.md R435). -/
def execCNglS (ft fs : Reg) (s : State) : Result :=
  fpCompareOp .s .single 11 ft fs s

/-- C.LT.S (spec/47_fpu_arith.md R435). -/
def execCLtS (ft fs : Reg) (s : State) : Result :=
  fpCompareOp .s .single 12 ft fs s

/-- C.NGE.S (spec/47_fpu_arith.md R435). -/
def execCNgeS (ft fs : Reg) (s : State) : Result :=
  fpCompareOp .s .single 13 ft fs s

/-- C.LE.S (spec/47_fpu_arith.md R435). -/
def execCLeS (ft fs : Reg) (s : State) : Result :=
  fpCompareOp .s .single 14 ft fs s

/-- C.NGT.S (spec/47_fpu_arith.md R435). -/
def execCNgtS (ft fs : Reg) (s : State) : Result :=
  fpCompareOp .s .single 15 ft fs s

/-- C.F.D (spec/47_fpu_arith.md R435). -/
def execCFD (ft fs : Reg) (s : State) : Result :=
  fpCompareOp .d .double 0 ft fs s

/-- C.UN.D (spec/47_fpu_arith.md R435). -/
def execCUnD (ft fs : Reg) (s : State) : Result :=
  fpCompareOp .d .double 1 ft fs s

/-- C.EQ.D (spec/47_fpu_arith.md R435). -/
def execCEqD (ft fs : Reg) (s : State) : Result :=
  fpCompareOp .d .double 2 ft fs s

/-- C.UEQ.D (spec/47_fpu_arith.md R435). -/
def execCUeqD (ft fs : Reg) (s : State) : Result :=
  fpCompareOp .d .double 3 ft fs s

/-- C.OLT.D (spec/47_fpu_arith.md R435). -/
def execCOltD (ft fs : Reg) (s : State) : Result :=
  fpCompareOp .d .double 4 ft fs s

/-- C.ULT.D (spec/47_fpu_arith.md R435). -/
def execCUltD (ft fs : Reg) (s : State) : Result :=
  fpCompareOp .d .double 5 ft fs s

/-- C.OLE.D (spec/47_fpu_arith.md R435). -/
def execCOleD (ft fs : Reg) (s : State) : Result :=
  fpCompareOp .d .double 6 ft fs s

/-- C.ULE.D (spec/47_fpu_arith.md R435). -/
def execCUleD (ft fs : Reg) (s : State) : Result :=
  fpCompareOp .d .double 7 ft fs s

/-- C.SF.D (spec/47_fpu_arith.md R435). -/
def execCSfD (ft fs : Reg) (s : State) : Result :=
  fpCompareOp .d .double 8 ft fs s

/-- C.NGLE.D (spec/47_fpu_arith.md R435). -/
def execCNgleD (ft fs : Reg) (s : State) : Result :=
  fpCompareOp .d .double 9 ft fs s

/-- C.SEQ.D (spec/47_fpu_arith.md R435). -/
def execCSeqD (ft fs : Reg) (s : State) : Result :=
  fpCompareOp .d .double 10 ft fs s

/-- C.NGL.D (spec/47_fpu_arith.md R435). -/
def execCNglD (ft fs : Reg) (s : State) : Result :=
  fpCompareOp .d .double 11 ft fs s

/-- C.LT.D (spec/47_fpu_arith.md R435). -/
def execCLtD (ft fs : Reg) (s : State) : Result :=
  fpCompareOp .d .double 12 ft fs s

/-- C.NGE.D (spec/47_fpu_arith.md R435). -/
def execCNgeD (ft fs : Reg) (s : State) : Result :=
  fpCompareOp .d .double 13 ft fs s

/-- C.LE.D (spec/47_fpu_arith.md R435). -/
def execCLeD (ft fs : Reg) (s : State) : Result :=
  fpCompareOp .d .double 14 ft fs s

/-- C.NGT.D (spec/47_fpu_arith.md R435). -/
def execCNgtD (ft fs : Reg) (s : State) : Result :=
  fpCompareOp .d .double 15 ft fs s

end Sys2Proof.Machine
end

