-- ==== Sys2Proof/Machine/LoadStore.lean ====
section
/-! DEFINITION. Load and store instructions (spec/40_load_store.md R200 to R234). -/

namespace Sys2Proof.Machine

/-! ### Shared operations -/

/-- Load n aligned bytes at the effective address and write the register (spec/40_load_store.md R200). -/
def loadAligned (n : Nat) (extend : Word → Word) (base rt : Reg) (offset : BitVec 16) (s : State) : Res State := do
  let (m, t) ← loadBytes n 0 n (effectiveAddress (readGpr s base) offset) s
  pure (writeGpr t rt (extend m))

/-- Store the low n bytes of the register at the effective address (spec/40_load_store.md R200). -/
def storeAligned (n : Nat) (base rt : Reg) (offset : BitVec 16) (s : State) : Res State :=
  storeValue n 0 n (effectiveAddress (readGpr s base) offset) (readGpr s rt) s

/-- Load the n bytes from `back` bytes below the effective address and merge them into the register; the checks are
on the effective address itself (spec/40_load_store.md R200, R208 to R211). -/
def loadPartial (back n : Nat) (merge : Word → Word → Word) (va : Word) (rt : Reg) (s : State) : Res State := do
  let (m, t) ← loadBytes 1 back n va s
  pure (writeGpr t rt (merge m (readGpr s rt)))

/-- Sign-extend the low byte. -/
def sextByte (v : Word) : Word := (v.setWidth 8).signExtend 64
/-- Sign-extend the low halfword. -/
def sextHalf (v : Word) : Word := (v.setWidth 16).signExtend 64
/-- Sign-extend the low word. -/
def sextLow (v : Word) : Word := sextWord (lowWord v)

/-- Set LLbit and record the physical address (spec/40_load_store.md R230; spec/10_state.md R56). -/
def setLinked (p : PAddr) (s : State) : State :=
  { s with llbit := true, cp0 := { s.cp0 with llAddr := p >>> 4 } }

/-- Load linked: the load, then LLbit and LLAddr (spec/40_load_store.md R230, R231). -/
def loadLinked (n : Nat) (extend : Word → Word) (base rt : Reg) (offset : BitVec 16) (s : State) : Res State := do
  let p ← dataAddress false n (effectiveAddress (readGpr s base) offset) s
  let t ← loadAligned n extend base rt offset s
  pure (setLinked p t)

/-- Store conditional: the store checks always, the store only when LLbit is 1, the register gets LLbit
(spec/40_load_store.md R232, R233). -/
def storeConditional (n : Nat) (base rt : Reg) (offset : BitVec 16) (s : State) : Res State := do
  let va := effectiveAddress (readGpr s base) offset
  let p ← dataAddress true n va s
  if s.llbit then
    let t ← busWrite p (bytesOf n (readGpr s rt)) s
    pure (writeGpr t rt 1)
  else pure (writeGpr s rt 0)

/-! ### Loads -/

/-- LB (spec/40_load_store.md R201). -/
def execLb (base rt : Reg) (offset : BitVec 16) (s : State) : Result :=
  complete s (loadAligned 1 sextByte base rt offset s)

/-- LBU (spec/40_load_store.md R202). -/
def execLbu (base rt : Reg) (offset : BitVec 16) (s : State) : Result :=
  complete s (loadAligned 1 id base rt offset s)

/-- LH (spec/40_load_store.md R203). -/
def execLh (base rt : Reg) (offset : BitVec 16) (s : State) : Result :=
  complete s (loadAligned 2 sextHalf base rt offset s)

/-- LHU (spec/40_load_store.md R204). -/
def execLhu (base rt : Reg) (offset : BitVec 16) (s : State) : Result :=
  complete s (loadAligned 2 id base rt offset s)

/-- LW (spec/40_load_store.md R205). -/
def execLw (base rt : Reg) (offset : BitVec 16) (s : State) : Result :=
  complete s (loadAligned 4 sextLow base rt offset s)

/-- LWU (spec/40_load_store.md R206). -/
def execLwu (base rt : Reg) (offset : BitVec 16) (s : State) : Result :=
  complete s (do
    require64 s
    loadAligned 4 id base rt offset s)

/-- LD (spec/40_load_store.md R207). -/
def execLd (base rt : Reg) (offset : BitVec 16) (s : State) : Result :=
  complete s (do
    require64 s
    loadAligned 8 id base rt offset s)

/-- LWL (spec/40_load_store.md R208). -/
def execLwl (base rt : Reg) (offset : BitVec 16) (s : State) : Result :=
  complete s (do
    let va := effectiveAddress (readGpr s base) offset
    let b := byteInWord va
    loadPartial 0 (4 - b) (mergeWordLeft b) va rt s)

/-- LWR (spec/40_load_store.md R209). -/
def execLwr (base rt : Reg) (offset : BitVec 16) (s : State) : Result :=
  complete s (do
    let va := effectiveAddress (readGpr s base) offset
    let b := byteInWord va
    loadPartial b (b + 1) (mergeWordRight (b + 1)) va rt s)

/-- LDL (spec/40_load_store.md R210). -/
def execLdl (base rt : Reg) (offset : BitVec 16) (s : State) : Result :=
  complete s (do
    require64 s
    let va := effectiveAddress (readGpr s base) offset
    let b := byteInDouble va
    loadPartial 0 (8 - b) (mergeDoubleLeft b) va rt s)

/-- LDR (spec/40_load_store.md R211). -/
def execLdr (base rt : Reg) (offset : BitVec 16) (s : State) : Result :=
  complete s (do
    require64 s
    let va := effectiveAddress (readGpr s base) offset
    let b := byteInDouble va
    loadPartial b (b + 1) (mergeDoubleRight (b + 1)) va rt s)

/-! ### Stores -/

/-- SB (spec/40_load_store.md R212). -/
def execSb (base rt : Reg) (offset : BitVec 16) (s : State) : Result :=
  complete s (storeAligned 1 base rt offset s)

/-- SH (spec/40_load_store.md R213). -/
def execSh (base rt : Reg) (offset : BitVec 16) (s : State) : Result :=
  complete s (storeAligned 2 base rt offset s)

/-- SW (spec/40_load_store.md R214). -/
def execSw (base rt : Reg) (offset : BitVec 16) (s : State) : Result :=
  complete s (storeAligned 4 base rt offset s)

/-- SD (spec/40_load_store.md R215). -/
def execSd (base rt : Reg) (offset : BitVec 16) (s : State) : Result :=
  complete s (do
    require64 s
    storeAligned 8 base rt offset s)

/-- SWL (spec/40_load_store.md R216). -/
def execSwl (base rt : Reg) (offset : BitVec 16) (s : State) : Result :=
  complete s (do
    let va := effectiveAddress (readGpr s base) offset
    let b := byteInWord va
    storeValue 1 0 (4 - b) va ((lowWord (readGpr s rt)).setWidth 64 >>> (8 * b)) s)

/-- SWR (spec/40_load_store.md R217). -/
def execSwr (base rt : Reg) (offset : BitVec 16) (s : State) : Result :=
  complete s (do
    let va := effectiveAddress (readGpr s base) offset
    let b := byteInWord va
    storeValue 1 b (b + 1) va (readGpr s rt) s)

/-- SDL (spec/40_load_store.md R218). -/
def execSdl (base rt : Reg) (offset : BitVec 16) (s : State) : Result :=
  complete s (do
    require64 s
    let va := effectiveAddress (readGpr s base) offset
    let b := byteInDouble va
    storeValue 1 0 (8 - b) va (readGpr s rt >>> (8 * b)) s)

/-- SDR (spec/40_load_store.md R219). -/
def execSdr (base rt : Reg) (offset : BitVec 16) (s : State) : Result :=
  complete s (do
    require64 s
    let va := effectiveAddress (readGpr s base) offset
    let b := byteInDouble va
    storeValue 1 b (b + 1) va (readGpr s rt) s)

/-! ### Load-linked and store-conditional -/

/-- LL (spec/40_load_store.md R230). -/
def execLl (base rt : Reg) (offset : BitVec 16) (s : State) : Result :=
  complete s (loadLinked 4 sextLow base rt offset s)

/-- LLD (spec/40_load_store.md R231). -/
def execLld (base rt : Reg) (offset : BitVec 16) (s : State) : Result :=
  complete s (do
    require64 s
    loadLinked 8 id base rt offset s)

/-- SC (spec/40_load_store.md R232). -/
def execSc (base rt : Reg) (offset : BitVec 16) (s : State) : Result :=
  complete s (storeConditional 4 base rt offset s)

/-- SCD (spec/40_load_store.md R233). -/
def execScd (base rt : Reg) (offset : BitVec 16) (s : State) : Result :=
  complete s (do
    require64 s
    storeConditional 8 base rt offset s)

end Sys2Proof.Machine
end

