-- ==== Sys2Proof/Machine/Fpu.lean ====
section
/-! DEFINITION. The floating-point unit: loads, stores, moves and branches (spec/46_fpu.md R390 to R413). -/

namespace Sys2Proof.Machine

/-! ### Loads and stores -/

/-- LWC1 (spec/46_fpu.md R397). -/
def execLwc1 (base ft : Reg) (offset : BitVec 16) (s : State) : Result :=
  complete s (do
    requireCop1 s
    let (m, t) ← loadBytes 4 0 4 (effectiveAddress (readGpr s base) offset) s
    pure (writeF32 t ft (lowWord m)))

/-- LDC1. An odd register with FR = 0 is refused before the address is tested (spec/46_fpu.md R391, R398; DESIGN CHOICE,
log 40). -/
def execLdc1 (base ft : Reg) (offset : BitVec 16) (s : State) : Result :=
  complete s (do
    requireCop1 s
    requireFloat s ft
    let (m, t) ← loadBytes 8 0 8 (effectiveAddress (readGpr s base) offset) s
    pure (writeCell t ft m))

/-- SWC1 (spec/46_fpu.md R399). -/
def execSwc1 (base ft : Reg) (offset : BitVec 16) (s : State) : Result :=
  complete s (do
    requireCop1 s
    storeValue 4 0 4 (effectiveAddress (readGpr s base) offset) ((readF32 s ft).setWidth 64) s)

/-- SDC1. An odd register with FR = 0 is refused before the address is tested (spec/46_fpu.md R391, R400; DESIGN CHOICE,
log 40). -/
def execSdc1 (base ft : Reg) (offset : BitVec 16) (s : State) : Result :=
  complete s (do
    requireCop1 s
    requireFloat s ft
    storeValue 8 0 8 (effectiveAddress (readGpr s base) offset) (cell s ft) s)

/-! ### Moves -/

/-- MFC1 (spec/46_fpu.md R401). -/
def execMfc1 (rt fs : Reg) (s : State) : Result :=
  complete s (do
    requireCop1 s
    pure (writeGpr s rt (sextWord (readF32 s fs))))

/-- DMFC1 (spec/46_fpu.md R402). -/
def execDmfc1 (rt fs : Reg) (s : State) : Result :=
  complete s (do
    requireCop1 s
    requireFloat s fs
    pure (writeGpr s rt (cell s fs)))

/-- The floating-point control register CFC1 reads; a free value where none exists (spec/46_fpu.md R403; U15). -/
def readControl (fs : Reg) (s : State) : Word × State :=
  if fs = 0 then (sextWord s.fcr0, s)
  else if fs = 31 then (sextWord s.fcr31, s)
  else (drawn s, spendDraws 1 s)

/-- CFC1 (spec/46_fpu.md R403). -/
def execCfc1 (rt fs : Reg) (s : State) : Result :=
  complete s (do
    requireCop1 s
    let (v, t) := readControl fs s
    pure (writeGpr t rt v))

/-- The control register CTC1 writes. The write of FCR31 happens also when it then raises Floating-Point, so the
answer is the state after the whole instruction (spec/46_fpu.md R404). -/
def writeControl (fs : Reg) (v : Word32) (s : State) : State :=
  if fs = 31 then
    let f := v &&& fcr31Mask
    let t := { s with fcr31 := f }
    if fcrTraps (fcrCause f) (fcrEnable f) then takeException .floatingPoint t else retire t
  else retire s

/-- CTC1 (spec/46_fpu.md R404). -/
def execCtc1 (rt fs : Reg) (s : State) : Result :=
  finish s (do
    requireCop1 s
    pure (writeControl fs (lowWord (readGpr s rt)) s))

/-- MTC1 (spec/46_fpu.md R405). -/
def execMtc1 (rt fs : Reg) (s : State) : Result :=
  complete s (do
    requireCop1 s
    pure (writeF32 s fs (lowWord (readGpr s rt))))

/-- DMTC1 (spec/46_fpu.md R406). -/
def execDmtc1 (rt fs : Reg) (s : State) : Result :=
  complete s (do
    requireCop1 s
    requireFloat s fs
    pure (writeCell s fs (readGpr s rt)))

/-! ### Branches on the condition bit -/

/-- BC1F (spec/46_fpu.md R410). -/
def execBc1f (offset : BitVec 16) (s : State) : Result :=
  finish s (do
    requireCop1 s
    branchIf (!fcrCond s.fcr31) offset s)

/-- BC1T (spec/46_fpu.md R411). -/
def execBc1t (offset : BitVec 16) (s : State) : Result :=
  finish s (do
    requireCop1 s
    branchIf (fcrCond s.fcr31) offset s)

/-- BC1FL (spec/46_fpu.md R412). -/
def execBc1fl (offset : BitVec 16) (s : State) : Result :=
  finish s (do
    requireCop1 s
    branchLikelyIf (!fcrCond s.fcr31) offset s)

/-- BC1TL (spec/46_fpu.md R413). -/
def execBc1tl (offset : BitVec 16) (s : State) : Result :=
  finish s (do
    requireCop1 s
    branchLikelyIf (fcrCond s.fcr31) offset s)

end Sys2Proof.Machine
end

