-- ==== Sys2Proof/Machine/MulDiv.lean ====
section
/-! DEFINITION. Multiply, divide and the moves of HI and LO (spec/42_muldiv.md R290 to R303). -/

namespace Sys2Proof.Machine

/-! ### Shared operations -/

/-- The 64-bit product of two words into HI and LO, each half sign-extended (spec/42_muldiv.md R290). -/
def putProduct32 (p : Word) (s : State) : Res State :=
  .ok (writeHiLo s (sextWord (p.extractLsb' 32 32)) (sextWord (p.extractLsb' 0 32)))

/-- The 128-bit product of two doublewords into HI and LO (spec/42_muldiv.md R294, R295). -/
def putProduct64 (p : BitVec 128) (s : State) : Res State :=
  .ok (writeHiLo s (p.extractLsb' 64 64) (p.extractLsb' 0 64))

/-- A pair (HI, LO) of DivCorner (spec/42_muldiv.md R291). -/
def putCorner (hiLo : Word × Word) (s : State) : Res State := .ok (writeHiLo s hiLo.1 hiLo.2)

/-- A 32-bit remainder and quotient into HI and LO, sign-extended (spec/42_muldiv.md R290). -/
def putQuotient32 (rem quot : Word32) (s : State) : Res State := .ok (writeHiLo s (sextWord rem) (sextWord quot))

/-- A 64-bit remainder and quotient into HI and LO (spec/42_muldiv.md R290). -/
def putQuotient64 (rem quot : Word) (s : State) : Res State := .ok (writeHiLo s rem quot)

/-- Both operands are words (spec/42_muldiv.md R290). -/
def requireWords (a b : Word) : Res Unit := do
  requireSE32 a
  requireSE32 b

/-- Signed 32-bit division, truncated toward zero, with its two corners (spec/42_muldiv.md R296). -/
def divideWord (a b : Word) (s : State) : Res State :=
  let n := (lowWord a).toInt
  let d := (lowWord b).toInt
  if d = 0 then putCorner (Config.divBy0 a) s
  else if n = -(2 ^ 31) ∧ d = -1 then putCorner Config.divOvf s
  else putQuotient32 (BitVec.ofInt 32 (n - n.tdiv d * d)) (BitVec.ofInt 32 (n.tdiv d)) s

/-- Unsigned 32-bit division (spec/42_muldiv.md R297). -/
def divideWordU (a b : Word) (s : State) : Res State :=
  if lowWord b = 0 then putCorner (Config.divuBy0 a) s
  else putQuotient32 (lowWord a % lowWord b) (lowWord a / lowWord b) s

/-- Signed 64-bit division, truncated toward zero, with its two corners (spec/42_muldiv.md R298). -/
def divideDouble (a b : Word) (s : State) : Res State :=
  let n := a.toInt
  let d := b.toInt
  if d = 0 then putCorner (Config.ddivBy0 a) s
  else if n = -(2 ^ 63) ∧ d = -1 then putCorner Config.ddivOvf s
  else putQuotient64 (BitVec.ofInt 64 (n - n.tdiv d * d)) (BitVec.ofInt 64 (n.tdiv d)) s

/-- Unsigned 64-bit division (spec/42_muldiv.md R299). -/
def divideDoubleU (a b : Word) (s : State) : Res State :=
  if b = 0 then putCorner (Config.ddivuBy0 a) s
  else putQuotient64 (a % b) (a / b) s

/-! ### Multiply -/

/-- MULT (spec/42_muldiv.md R292). -/
def execMult (rs rt : Reg) (s : State) : Result :=
  complete s (do
    requireWords (readGpr s rs) (readGpr s rt)
    putProduct32 (BitVec.ofInt 64 ((lowWord (readGpr s rs)).toInt * (lowWord (readGpr s rt)).toInt)) s)

/-- MULTU (spec/42_muldiv.md R293). -/
def execMultu (rs rt : Reg) (s : State) : Result :=
  complete s (do
    requireWords (readGpr s rs) (readGpr s rt)
    putProduct32 (BitVec.ofNat 64 ((lowWord (readGpr s rs)).toNat * (lowWord (readGpr s rt)).toNat)) s)

/-- DMULT (spec/42_muldiv.md R294). -/
def execDmult (rs rt : Reg) (s : State) : Result :=
  complete s (do
    require64 s
    putProduct64 (BitVec.ofInt 128 ((readGpr s rs).toInt * (readGpr s rt).toInt)) s)

/-- DMULTU (spec/42_muldiv.md R295). -/
def execDmultu (rs rt : Reg) (s : State) : Result :=
  complete s (do
    require64 s
    putProduct64 (BitVec.ofNat 128 ((readGpr s rs).toNat * (readGpr s rt).toNat)) s)

/-! ### Divide -/

/-- DIV (spec/42_muldiv.md R296). -/
def execDiv (rs rt : Reg) (s : State) : Result :=
  complete s (do
    requireWords (readGpr s rs) (readGpr s rt)
    divideWord (readGpr s rs) (readGpr s rt) s)

/-- DIVU (spec/42_muldiv.md R297). -/
def execDivu (rs rt : Reg) (s : State) : Result :=
  complete s (do
    requireWords (readGpr s rs) (readGpr s rt)
    divideWordU (readGpr s rs) (readGpr s rt) s)

/-- DDIV (spec/42_muldiv.md R298). -/
def execDdiv (rs rt : Reg) (s : State) : Result :=
  complete s (do
    require64 s
    divideDouble (readGpr s rs) (readGpr s rt) s)

/-- DDIVU (spec/42_muldiv.md R299). -/
def execDdivu (rs rt : Reg) (s : State) : Result :=
  complete s (do
    require64 s
    divideDoubleU (readGpr s rs) (readGpr s rt) s)

/-! ### Moves -/

/-- MFHI (spec/42_muldiv.md R300). -/
def execMfhi (rd : Reg) (s : State) : Result :=
  complete s (.ok (writeGpr s rd s.hi))

/-- MTHI (spec/42_muldiv.md R301). -/
def execMthi (rs : Reg) (s : State) : Result :=
  complete s (.ok (writeHiLo s (readGpr s rs) s.lo))

/-- MFLO (spec/42_muldiv.md R302). -/
def execMflo (rd : Reg) (s : State) : Result :=
  complete s (.ok (writeGpr s rd s.lo))

/-- MTLO (spec/42_muldiv.md R303). -/
def execMtlo (rs : Reg) (s : State) : Result :=
  complete s (.ok (writeHiLo s s.hi (readGpr s rs)))

end Sys2Proof.Machine
end

