-- ==== Sys2Proof/Machine/Trap.lean ====
section
/-! DEFINITION. Traps, system call, breakpoint, SYNC and CACHE (spec/44_trap_system.md R340 to R357). -/

namespace Sys2Proof.Machine

/-- Raise Trap when the condition holds, else do nothing (spec/44_trap_system.md R340). -/
def trapIf (c : Bool) (s : State) : Res State := do
  require (!c) (.exc .trap)
  pure s

/-! ### Register traps; the code is not read by hardware (spec/44_trap_system.md R340) -/

/-- TGE (spec/44_trap_system.md R341). -/
def execTge (rs rt : Reg) (_code : BitVec 10) (s : State) : Result :=
  complete s (trapIf (!(readGpr s rs).slt (readGpr s rt)) s)

/-- TGEU (spec/44_trap_system.md R342). -/
def execTgeu (rs rt : Reg) (_code : BitVec 10) (s : State) : Result :=
  complete s (trapIf (!(readGpr s rs).ult (readGpr s rt)) s)

/-- TLT (spec/44_trap_system.md R343). -/
def execTlt (rs rt : Reg) (_code : BitVec 10) (s : State) : Result :=
  complete s (trapIf ((readGpr s rs).slt (readGpr s rt)) s)

/-- TLTU (spec/44_trap_system.md R344). -/
def execTltu (rs rt : Reg) (_code : BitVec 10) (s : State) : Result :=
  complete s (trapIf ((readGpr s rs).ult (readGpr s rt)) s)

/-- TEQ (spec/44_trap_system.md R345). -/
def execTeq (rs rt : Reg) (_code : BitVec 10) (s : State) : Result :=
  complete s (trapIf (readGpr s rs == readGpr s rt) s)

/-- TNE (spec/44_trap_system.md R346). -/
def execTne (rs rt : Reg) (_code : BitVec 10) (s : State) : Result :=
  complete s (trapIf (readGpr s rs != readGpr s rt) s)

/-! ### Immediate traps -/

/-- TGEI (spec/44_trap_system.md R347). -/
def execTgei (rs : Reg) (imm : BitVec 16) (s : State) : Result :=
  complete s (trapIf (!(readGpr s rs).slt (signedImm imm)) s)

/-- TGEIU (spec/44_trap_system.md R348). -/
def execTgeiu (rs : Reg) (imm : BitVec 16) (s : State) : Result :=
  complete s (trapIf (!(readGpr s rs).ult (signedImm imm)) s)

/-- TLTI (spec/44_trap_system.md R349). -/
def execTlti (rs : Reg) (imm : BitVec 16) (s : State) : Result :=
  complete s (trapIf ((readGpr s rs).slt (signedImm imm)) s)

/-- TLTIU (spec/44_trap_system.md R350). -/
def execTltiu (rs : Reg) (imm : BitVec 16) (s : State) : Result :=
  complete s (trapIf ((readGpr s rs).ult (signedImm imm)) s)

/-- TEQI (spec/44_trap_system.md R351). -/
def execTeqi (rs : Reg) (imm : BitVec 16) (s : State) : Result :=
  complete s (trapIf (readGpr s rs == signedImm imm) s)

/-- TNEI (spec/44_trap_system.md R352). -/
def execTnei (rs : Reg) (imm : BitVec 16) (s : State) : Result :=
  complete s (trapIf (readGpr s rs != signedImm imm) s)

/-! ### System call, breakpoint, SYNC and CACHE -/

/-- SYSCALL (spec/44_trap_system.md R353). -/
def execSyscall (_code : BitVec 20) (s : State) : Result :=
  finish s (raise .systemCall)

/-- BREAK (spec/44_trap_system.md R354). -/
def execBrk (_code : BitVec 20) (s : State) : Result :=
  finish s (raise .breakpoint)

/-- SYNC: nothing is left to order (spec/44_trap_system.md R356). -/
def execSync  (s : State) : Result :=
  complete s (.ok s)

/-- CACHE: the checks of a data load without alignment, Watch and bus access, and no other effect (spec/44_trap_system.md R357; log 24). -/
def execCache (base : Reg) (_op : BitVec 5) (offset : BitVec 16) (s : State) : Result :=
  complete s (do
    requireCop0 s
    let _ ← translate false (effectiveAddress (readGpr s base) offset) s
    pure s)

end Sys2Proof.Machine
end

