-- ==== Sys2Proof/Machine/Undecoded.lean ====
section
/-! DEFINITION. What a decoded word does, the words outside the opcode table included
(spec/30_encoding.md R180 to R185; spec/46_fpu.md R395). -/

namespace Sys2Proof.Machine

/-- The coprocessor whose usability test comes first for this instruction's opcode (spec/30_encoding.md R183, R184). -/
def testedUnit (i : Instr) : Option (BitVec 2) :=
  match (opF (encode i)).toNat with
  | 16 => some 0
  | 17 => some 1
  | _ => none

/-- The 64-bit-only instructions that have should-be-zero bits (spec/30_encoding.md R185). -/
def isOnly64 (i : Instr) : Bool :=
  match i with
  | .dadd _ _ _ | .daddu _ _ _ | .dsub _ _ _ | .dsubu _ _ _
  | .dmult _ _ | .dmultu _ _ | .ddiv _ _ | .ddivu _ _
  | .dsll _ _ _ | .dsrl _ _ _ | .dsra _ _ _ | .dsllv _ _ _ | .dsrlv _ _ _ | .dsrav _ _ _
  | .dsll32 _ _ _ | .dsrl32 _ _ _ | .dsra32 _ _ _ | .dmfc0 _ _ | .dmtc0 _ _ => true
  | _ => false

/-- The usability test of a unit, if any (spec/30_encoding.md R184). -/
def requireUnit (unit : Option (BitVec 2)) (s : State) : Res Unit :=
  match unit with
  | none => .ok ()
  | some u => if u = 0 then requireCop0 s else requireCop1 s

/-- A word with a should-be-zero bit set: refused, after the tests that come before (spec/30_encoding.md R182, R183). -/
def execShouldBeZero (i : Instr) (s : State) : Result :=
  finish s (do
    requireUnit (testedUnit i) s
    if isOnly64 i then require64 s
    refuse .shouldBeZero)

/-- A reserved encoding (spec/30_encoding.md R181). -/
def execReserved (s : State) : Result := finish s (raise .reservedInstruction)

/-- A reserved sub-opcode of a coprocessor: its usability test comes first (spec/30_encoding.md R181, R184). -/
def execReservedCop (unit : BitVec 2) (s : State) : Result :=
  finish s (do
    requireUnit (some unit) s
    raise .reservedInstruction)

/-- Opcode 18: coprocessor 2 does not exist (spec/30_encoding.md R180). -/
def execCop2 (s : State) : Result :=
  finish s (if statusCu2 s.cp0.status then raise .reservedInstruction else raise (.coprocessorUnusable 2))

/-- The meaning of a decoded word (spec/30_encoding.md R183). -/
def execDecoded (d : Decoded) (s : State) : Result :=
  match d with
  | .instr i => exec i s
  | .shouldBeZero i => execShouldBeZero i s
  | .reserved => execReserved s
  | .reservedCop unit => execReservedCop unit s
  | .cop2 => execCop2 s
  | .fpUnimplemented => fpUnimplementedOp s

/-- The instruction step: fetch, decode, execute, optional exception entry, retire (spec/10_state.md R26). -/
def instructionStep (s : State) : Result :=
  match fetchWord s with
  | .ok (w, t) => execDecoded (decode w) t
  | .error stop => finish s (.error stop)

end Sys2Proof.Machine
end

