-- ==== Sys2Proof/Machine/Step.lean ====
section
/-! DEFINITION. One step of the machine: the moves of the environment, then one tick
(spec/00_scope.md R11, R12; spec/10_state.md R26). -/

namespace Sys2Proof.Machine

/-- One step: what the environment does between ticks, the instruction step, the timer step, interrupt service. -/
def step (s : State) : Host.Outcome State Fault Refusal :=
  endTick (instructionStep (beginTick s))

/-- The four bytes of a word, first byte first (spec/20_memory.md R100). -/
def wordBytes (w : Word32) : List Byte :=
  [w.extractLsb' 24 8, w.extractLsb' 16 8, w.extractLsb' 8 8, w.extractLsb' 0 8]

/-- The state with a table word stored where the next step fetches, unchanged when no address there translates. -/
def State.withFetchWord (s : State) (nbits w : Nat) : State :=
  match fetchAddress s.pc s with
  | .ok p => setMemBytes p.toNat (wordBytes (BitVec.ofNat 32 (w % 2 ^ nbits))) s
  | .error _ => s

end Sys2Proof.Machine
end

