-- ==== Sys2Proof/Safety.lean ====
section
/-! DEFINITION. What counts as a safe run, the invariant of the machine, and the words in which the claims are stated:
plain memory, the frames of an instruction, and the entry of an exception. -/

namespace Sys2Proof.Machine

/-! ### Safe runs -/

/-- The next step answers a next state. -/
def SafeStep (s : State) : Prop := ∃ t, step s = .next t

/-- The next n steps all answer a next state. -/
def SafeRun : Nat → State → Prop
  | 0, _ => True
  | n + 1, s => ∃ t, step s = .next t ∧ SafeRun n t

/-! ### The invariant -/

/-- Every stored word of a register block lies under its slot's mask (spec/61_platform_devices.md R531). -/
def BlocksMasked (s : State) : Prop :=
  ∀ (blk : Block) (k : Nat), writeSide blk k s &&& ~~~(slotMask blk k) = 0

/-- What holds after reset and is kept by every step. -/
structure Inv (s : State) : Prop where
  /-- memory keeps its canonical form -/
  memory : s.mem.wf = true
  /-- x[0] is zero (spec/10_state.md R20) -/
  zero : s.gpr[0] = 0
  /-- the bits of Status that no rule gives a meaning read zero (spec/10_state.md R50) -/
  status : s.cp0.status &&& ~~~statusMask = 0
  /-- the reserved bits of FCR31 read zero (spec/10_state.md R36) -/
  fcr31 : s.fcr31 &&& ~~~fcr31Mask = 0
  /-- Random lies between Wired and 31 (spec/10_state.md R42) -/
  random : s.cp0.wired.toNat ≤ 31 → s.cp0.wired.toNat ≤ s.cp0.random.toNat ∧ s.cp0.random.toNat ≤ 31
  /-- the constant fields of Config, with BE = 1 (spec/10_state.md R55; spec/20_memory.md R101) -/
  config : s.cp0.config &&& 0x80FFFFF0 = 0x0006E460
  /-- bit 2 of WatchLo reads zero (spec/10_state.md R57) -/
  watchLo : s.cp0.watchLo.getLsbD 2 = false
  /-- the reserved bits of TagLo read zero (spec/10_state.md R60) -/
  tagLo : s.cp0.tagLo &&& ~~~0x0FFFFFC0 = 0
  /-- Cause.IP6..IP2 show the interrupt pins (spec/60_exceptions.md R470) -/
  pins : s.cp0.cause.ip.extractLsb' 2 5 = s.intPins
  /-- the one-shot timer condition is not used while TIMER_ON_IP7 holds (spec/60_exceptions.md R500, R502) -/
  timer : s.timerCond = false
  /-- the identification registers hold the parameters (spec/10_state.md R35, R54) -/
  ids : s.cp0.prid = Config.prid ∧ s.fcr0 = Config.fcr0
  /-- the register blocks store no bit outside their masks -/
  blocks : BlocksMasked s
  /-- no reset input is left pending between ticks (log 16) -/
  resets : s.coldResetPin = false ∧ s.softResetPin = false ∧ s.nmiPin = false

/-! ### Plain memory -/

/-- A byte that a read takes from memory and nothing else: populated RDRAM, SP_DMEM, SP_IMEM, PIF_ROM, PIF_RAM
(spec/20_memory.md R150 to R152). -/
def plainRead (p : PAddr) (s : State) : Bool :=
  match resolve p with
  | some (.rdram, off) => decide (off < s.rdramSize)
  | some (.spDmem, _) | some (.spImem, _) | some (.pifRom, _) | some (.pifRam, _) => true
  | _ => false

/-- A byte that a write puts into memory: populated RDRAM, SP_DMEM, SP_IMEM, PIF_RAM. -/
def plainWrite (p : PAddr) (s : State) : Bool :=
  match resolve p with
  | some (.rdram, off) => decide (off < s.rdramSize)
  | some (.spDmem, _) | some (.spImem, _) | some (.pifRam, _) => true
  | _ => false

/-- All n bytes from p are plain to read. -/
def PlainRead (p : PAddr) (n : Nat) (s : State) : Prop := ∀ k < n, plainRead (p + BitVec.ofNat 32 k) s = true

/-- All n bytes from p are plain to write, and the write sets off no side effect (spec/61_platform_devices.md R533). -/
def PlainWrite (p : PAddr) (n : Nat) (s : State) : Prop :=
  (∀ k < n, plainWrite (p + BitVec.ofNat 32 k) s = true) ∧ touchedEffects p.toNat n = []

/-- The n bytes of memory from p, first byte first. -/
def bytesAt (p : PAddr) (n : Nat) (s : State) : List Byte :=
  (List.range n).map fun k => memByte (p.toNat + k) s

/-- The big-endian number of n bytes of memory (spec/20_memory.md R100). -/
def numberAt (p : PAddr) (n : Nat) (s : State) : Word := wordOf (bytesAt p n s)

/-! ### Frames: what an instruction changes, and that it changes nothing else -/

/-- Where an instruction that is no branch leaves control (spec/10_state.md R26). -/
def nextPc (s : State) : Word :=
  match s.delay with
  | some target => target
  | none => s.pc + 4

/-- Only PC and Delay change. -/
structure OnlyControl (pc : Word) (delay : Option Word) (s t : State) : Prop where
  pc : t.pc = pc
  delay : t.delay = delay
  memory : ∀ a, memByte a t = memByte a s
  rest : { t with pc := s.pc, delay := s.delay } = s

/-- Only general register r changes, to v, and control moves on; x[0] keeps reading zero. -/
structure OnlyGpr (r : Reg) (v : Word) (s t : State) : Prop where
  value : readGpr t r = if r = 0 then 0 else v
  others : ∀ q, q ≠ r → readGpr t q = readGpr s q
  pc : t.pc = nextPc s
  delay : t.delay = none
  memory : ∀ a, memByte a t = memByte a s
  rest : { t with gpr := s.gpr, pc := s.pc, delay := s.delay } = s

/-- The same for a branch: register r takes v, and control is as given. -/
structure OnlyLink (r : Reg) (v : Word) (pc : Word) (delay : Option Word) (s t : State) : Prop where
  value : readGpr t r = if r = 0 then 0 else v
  others : ∀ q, q ≠ r → readGpr t q = readGpr s q
  pc : t.pc = pc
  delay : t.delay = delay
  memory : ∀ a, memByte a t = memByte a s
  rest : { t with gpr := s.gpr, pc := s.pc, delay := s.delay } = s

/-- Only HI and LO change, and control moves on. -/
structure OnlyHiLo (hi lo : Word) (s t : State) : Prop where
  hi : t.hi = hi
  lo : t.lo = lo
  pc : t.pc = nextPc s
  delay : t.delay = none
  memory : ∀ a, memByte a t = memByte a s
  rest : { t with hi := s.hi, lo := s.lo, pc := s.pc, delay := s.delay } = s

/-- Floating-point cell j reads as before, and what is hidden of it under the present FR is kept too
(spec/10_state.md R33). -/
structure SameCell (j : Reg) (s t : State) : Prop where
  value : cell t j = cell s j
  bits : t.fgr[j.toNat]'(j.isLt) = s.fgr[j.toNat]'(j.isLt)
  low : t.fgrLowFr[j.toNat]'(j.isLt) = s.fgrLowFr[j.toNat]'(j.isLt)
  high : t.fgrHighFr[j.toNat]'(j.isLt) = s.fgrHighFr[j.toNat]'(j.isLt)

/-- Only the 64-bit floating-point cell i changes, to v, and control moves on. -/
structure OnlyCell (i : Reg) (v : Word) (s t : State) : Prop where
  value : cell t i = v
  others : ∀ j, j ≠ i → SameCell j s t
  pc : t.pc = nextPc s
  delay : t.delay = none
  memory : ∀ a, memByte a t = memByte a s
  rest : { t with
      fgr := s.fgr, fgrLowFr := s.fgrLowFr, fgrHighFr := s.fgrHighFr, pc := s.pc, delay := s.delay } = s

/-- The cell that holds the 32-bit view of register i (spec/10_state.md R31). -/
def homeOf (s : State) (i : Reg) : Reg := if fr s then i else evenReg i

/-- The low half of floating-point cell j reads as before and is kept. -/
structure SameLow (j : Reg) (s t : State) : Prop where
  value : (cell t j).extractLsb' 0 32 = (cell s j).extractLsb' 0 32
  bits : (t.fgr[j.toNat]'(j.isLt)).extractLsb' 0 32 = (s.fgr[j.toNat]'(j.isLt)).extractLsb' 0 32
  tag : t.fgrLowFr[j.toNat]'(j.isLt) = s.fgrLowFr[j.toNat]'(j.isLt)

/-- The high half of floating-point cell j reads as before and is kept. -/
structure SameHigh (j : Reg) (s t : State) : Prop where
  value : (cell t j).extractLsb' 32 32 = (cell s j).extractLsb' 32 32
  bits : (t.fgr[j.toNat]'(j.isLt)).extractLsb' 32 32 = (s.fgr[j.toNat]'(j.isLt)).extractLsb' 32 32
  tag : t.fgrHighFr[j.toNat]'(j.isLt) = s.fgrHighFr[j.toNat]'(j.isLt)

/-- The cells of u are those of s but for the 32-bit view of register i, which is v. With FR = 1 the upper half of the
cell is left open; with FR = 0 the other half is kept (spec/10_state.md R31). -/
structure F32Written (i : Reg) (v : Word32) (s u : State) : Prop where
  value : readF32 u i = v
  others : ∀ j, j ≠ homeOf s i → SameCell j s u
  lowKept : fr s = false → isOdd i = true → SameLow (evenReg i) s u
  highKept : fr s = false → isOdd i = false → SameHigh i s u

/-- Only the 32-bit view of register i changes, and control moves on; `draws` is the model's own position in the free
values. -/
structure OnlyF32 (i : Reg) (v : Word32) (s t : State) : Prop where
  cells : F32Written i v s t
  pc : t.pc = nextPc s
  delay : t.delay = none
  memory : ∀ a, memByte a t = memByte a s
  rest : { t with
      fgr := s.fgr, fgrLowFr := s.fgrLowFr, fgrHighFr := s.fgrHighFr, draws := s.draws, pc := s.pc
      delay := s.delay } = s

/-- Only the bytes of memory from `first` change, and control moves on. -/
structure OnlyMemory (first : Nat) (bytes : List Byte) (s t : State) : Prop where
  stored : ∀ k (h : k < bytes.length), memByte (first + k) t = bytes[k]
  others : ∀ a, a < first ∨ first + bytes.length ≤ a → memByte a t = memByte a s
  pc : t.pc = nextPc s
  delay : t.delay = none
  rest : { t with mem := s.mem, pc := s.pc, delay := s.delay } = s

/-- The low word of an exact integer, sign-extended (spec/41_alu.md R280). -/
def wordOfInt (x : Int) : Word := sextWord (BitVec.ofInt 32 x)

/-- An exact integer fits a signed word (spec/41_alu.md R280). -/
def FitsWord (x : Int) : Prop := -(2 ^ 31) ≤ x ∧ x < 2 ^ 31

/-- An exact integer fits a signed doubleword (spec/41_alu.md R280). -/
def FitsDouble (x : Int) : Prop := -(2 ^ 63) ≤ x ∧ x < 2 ^ 63

/-- The target of a conditional branch, as an exact sum (spec/43_branch_jump.md R310). -/
def targetOf (s : State) (offset : BitVec 16) : Word := s.pc + 4 + BitVec.ofInt 64 (4 * offset.toInt)

/-! ### The entry of an exception -/

/-- The exceptions that record an address. -/
def recordsAddress : Exc → Bool
  | .tlbModified _ | .tlbRefill _ _ _ | .tlbInvalid _ _ | .addressError _ _ => true
  | _ => false

/-- t is s after entering exception e at the instruction of s (spec/60_exceptions.md R480 to R482). -/
structure Enters (e : Exc) (s t : State) : Prop where
  code : t.cp0.cause.excCode = excCode e
  exl : t.cp0.status = s.cp0.status ||| 0x00000002
  pc : t.pc = exceptionVector e s.cp0.status
  delay : t.delay = none
  saved : statusExl s.cp0.status = false →
    t.cp0.epc = (if s.delay.isSome then s.pc - 4 else s.pc) ∧ t.cp0.cause.bd = s.delay.isSome
  kept : statusExl s.cp0.status = true → t.cp0.epc = s.cp0.epc ∧ t.cp0.cause.bd = s.cp0.cause.bd
  lines : t.cp0.cause.ip = s.cp0.cause.ip
  unit : ∀ u, e = .coprocessorUnusable u → t.cp0.cause.ce = u
  addresses : recordsAddress e = false →
    t.cp0.badVAddr = s.cp0.badVAddr ∧ t.cp0.context = s.cp0.context ∧ t.cp0.xcontext = s.cp0.xcontext ∧
      t.cp0.entryHi = s.cp0.entryHi
  otherCp0 : { t.cp0 with
      cause := s.cp0.cause, status := s.cp0.status, epc := s.cp0.epc, badVAddr := s.cp0.badVAddr
      context := s.cp0.context, xcontext := s.cp0.xcontext, entryHi := s.cp0.entryHi } = s.cp0
  rest : { t with cp0 := s.cp0, pc := s.pc, delay := s.delay, draws := s.draws } = s

/-- The registers a TLB exception records (spec/60_exceptions.md R486). -/
structure TlbRecorded (va : Word) (s t : State) : Prop where
  badVAddr : t.cp0.badVAddr = va
  context : t.cp0.context = { pteBase := s.cp0.context.pteBase, badVpn2 := va.extractLsb' 13 19 }
  xcontext : t.cp0.xcontext =
    { pteBase := s.cp0.xcontext.pteBase, r := va.extractLsb' 62 2, badVpn2 := va.extractLsb' 13 27 }
  entryHi : t.cp0.entryHi = { r := va.extractLsb' 62 2, vpn2 := va.extractLsb' 13 27, asid := s.cp0.entryHi.asid }

/-- The registers an Address Error records; the rest of the translation registers is left open
(spec/60_exceptions.md R485). -/
structure AddressRecorded (va : Word) (s t : State) : Prop where
  badVAddr : t.cp0.badVAddr = va
  asid : t.cp0.entryHi.asid = s.cp0.entryHi.asid
  pteBase : t.cp0.context.pteBase = s.cp0.context.pteBase
  xpteBase : t.cp0.xcontext.pteBase = s.cp0.xcontext.pteBase

/-! ### Conditions under which instructions run -/

/-- The instruction answers a next state of which P holds. -/
def Answers (i : Instr) (s : State) (P : State → Prop) : Prop := ∃ t, exec i s = .next t ∧ P t

/-- The mode is legal and permits 64-bit operations (spec/60_exceptions.md R463). -/
def Permits64 (s : State) : Prop := ∃ m, modeOf s.cp0.status = some m ∧ ops64 s.cp0.status m = true

/-- The mode is legal and does not permit 64-bit operations (spec/60_exceptions.md R463). -/
def Forbids64 (s : State) : Prop := ∃ m, modeOf s.cp0.status = some m ∧ ops64 s.cp0.status m = false

/-- The mode is legal and coprocessor 0 is usable (spec/45_cop0.md R365). -/
def Cop0Usable (s : State) : Prop := ∃ m, modeOf s.cp0.status = some m ∧ cop0Usable s.cp0.status m = true

/-- The mode is legal and coprocessor 0 is not usable (spec/45_cop0.md R365). -/
def Cop0Unusable (s : State) : Prop := ∃ m, modeOf s.cp0.status = some m ∧ cop0Usable s.cp0.status m = false

/-- The mode is legal and the byte order is not reversed (spec/20_memory.md R101). -/
def PlainOrder (s : State) : Prop := ∃ m, modeOf s.cp0.status = some m ∧ (m = .user → statusRe s.cp0.status = false)

/-- The 64-bit-only instructions (spec/30_encoding.md R185). -/
def needs64 (i : Instr) : Bool :=
  match i with
  | .daddi _ _ _ | .daddiu _ _ _ | .ldl _ _ _ | .ldr _ _ _ | .lwu _ _ _ | .ld _ _ _ | .sd _ _ _ | .sdl _ _ _
  | .sdr _ _ _ | .lld _ _ _ | .scd _ _ _ => true
  | i => isOnly64 i

/-- Only memory and general register r change, and control moves on. -/
structure OnlyGprMemory (r : Reg) (v : Word) (first : Nat) (bytes : List Byte) (s t : State) : Prop where
  value : readGpr t r = if r = 0 then 0 else v
  others : ∀ q, q ≠ r → readGpr t q = readGpr s q
  stored : ∀ k (h : k < bytes.length), memByte (first + k) t = bytes[k]
  untouched : ∀ a, a < first ∨ first + bytes.length ≤ a → memByte a t = memByte a s
  pc : t.pc = nextPc s
  delay : t.delay = none
  rest : { t with gpr := s.gpr, mem := s.mem, pc := s.pc, delay := s.delay } = s

/-! ### Floating point -/

/-- FCR31 with the six Cause bits replaced (spec/46_fpu.md R394). -/
def causeReplaced (f : Word32) (cause : BitVec 6) : Word32 := (f &&& 0xFFFC0FFF) ||| (cause.setWidth 32 <<< 12)

/-- FCR31 after an operation that did not trap: Cause replaced, the sticky Flags added (spec/46_fpu.md R394). -/
def causeAndFlags (f : Word32) (cause : BitVec 6) : Word32 :=
  causeReplaced f cause ||| ((cause.setWidth 5).setWidth 32 <<< 2)

/-- A cause that traps: E always, V Z O U I when the Enable bit is set (spec/46_fpu.md R394). -/
def Traps (f : Word32) (cause : BitVec 6) : Prop :=
  cause.getLsbD 5 = true ∨ ∃ k < 5, cause.getLsbD k = true ∧ f.getLsbD (7 + k) = true

/-- The exact value of a finite pattern, denormals included (spec/46_fpu.md R393). -/
def fpReal (f : Fmt) (v : Word) : ℚ :=
  let magnitude : ℚ :=
    if fpExp f v = 0 then (fpFrac f v : ℚ) * 2 ^ (f.emin - (f.precision - 1 : Nat))
    else ((2 ^ (f.precision - 1) + fpFrac f v : Nat) : ℚ) * 2 ^ ((fpExp f v : Int) - f.emax - (f.precision - 1 : Nat))
  if fpSign f v then -magnitude else magnitude

/-- The extended real a pattern that is no NaN stands for (spec/46_fpu.md R393). -/
noncomputable def fpExtended (f : Fmt) (v : Word) : EReal :=
  if fpExp f v = f.expOnes then (if fpSign f v then ⊥ else ⊤) else ((fpReal f v : ℝ) : EReal)

section
variable {K : Type} [Field K] [LinearOrder K] [IsStrictOrderedRing K] [FloorRing K]

/-- The nearest integer of a rational or a real, ties to even. -/
def nearestEven (x : K) : Int :=
  if x - ⌊x⌋ < 1 / 2 then ⌊x⌋ else if 1 / 2 < x - ⌊x⌋ then ⌊x⌋ + 1 else if ⌊x⌋ % 2 = 0 then ⌊x⌋ else ⌊x⌋ + 1

/-- An integer from a rational or a real in a rounding direction: nearest even, toward zero, up, down
(spec/47_fpu_arith.md R423). -/
def roundedTo (mode : BitVec 2) (x : K) : Int :=
  if mode = 0 then nearestEven x
  else if mode = 1 then (if 0 ≤ x then ⌊x⌋ else ⌈x⌉)
  else if mode = 2 then ⌈x⌉ else ⌊x⌋

end

/-- The default quiet NaN the unit generates (spec/46_fpu.md R393). -/
def quietNan : Fmt → Word
  | .single => 0x7FBFFFFF
  | .double => 0x7FF7FFFFFFFFFFFF

/-- x rounded to p significant binary digits, exponent unbounded, in a direction (spec/47_fpu_arith.md R396). -/
noncomputable def roundedSignificand (p : Nat) (mode : BitVec 2) (x : ℝ) : ℝ :=
  let unit : ℝ := 2 ^ (Int.log 2 |x| - (p - 1 : Nat))
  roundedTo mode (x / unit) * unit

/-- The pattern an overflow gives, infinity (true) or the largest finite number (false), by direction and sign
(spec/47_fpu_arith.md R396). -/
def overflowsToInfinity (mode : BitVec 2) (negative : Bool) : Bool :=
  if mode = 0 then true else if mode = 1 then false else if mode = 2 then !negative else negative

/-- The pattern a tiny result gives, 2^emin (true) or zero (false), by direction and sign (spec/47_fpu_arith.md R396). -/
def tinyToSmallest (mode : BitVec 2) (negative : Bool) : Bool :=
  if mode = 2 then !negative else if mode = 3 then negative else false

/-- r is what the infinitely precise result x ≠ 0 becomes in format f: rounded once to the precision; overflow; a tiny
result trapped or flushed; never a denormal (spec/47_fpu_arith.md R396). A single has its value in the low word. -/
def RoundsTo (f : Fmt) (env : FpEnv) (x : ℝ) (r : FpResult) : Prop :=
  let y := roundedSignificand f.precision env.rm x
  let negative := decide (fpSign f r.value = true)
  let signed := (fpSign f r.value = true ↔ x < 0) ∧ (f = .single → r.value.toNat < 2 ^ 32)
  if (2 : ℝ) ^ (f.emax + 1) ≤ |y| then
    r.cause = 0b000101 ∧ signed ∧
      (if overflowsToInfinity env.rm negative then fpClass f r.value = .infinity
       else fpClass f r.value = .normal ∧ |((fpReal f r.value : ℚ) : ℝ)| = (2 - 2 ^ (1 - (f.precision : Int))) * 2 ^ f.emax)
  else if |x| < (2 : ℝ) ^ f.emin then
    if env.fs = false ∨ env.enable.getLsbD 1 = true ∨ env.enable.getLsbD 0 = true then r.cause = 0b100000
    else
      r.cause = 0b000011 ∧ signed ∧
        (if tinyToSmallest env.rm negative then fpClass f r.value = .normal ∧ |((fpReal f r.value : ℚ) : ℝ)| = 2 ^ f.emin
         else fpClass f r.value = .zero)
  else
    (r.cause = if y = x then 0 else 0b000001) ∧ signed ∧ fpClass f r.value = .normal ∧
      ((fpReal f r.value : ℚ) : ℝ) = y

/-- Only FCR31.C changes, and control moves on. -/
structure OnlyCond (c : Bool) (s t : State) : Prop where
  cond : t.fcr31 = if c then s.fcr31 ||| 0x00800000 else s.fcr31 &&& 0xFF7FFFFF
  pc : t.pc = nextPc s
  delay : t.delay = none
  memory : ∀ a, memByte a t = memByte a s
  rest : { t with fcr31 := s.fcr31, pc := s.pc, delay := s.delay } = s

/-! ### What an instruction needs before it has its effect -/

/-- X when every operand is a sign-extended word, a refusal otherwise (spec/41_alu.md R240). -/
def IfWords (operands : List Word) (i : Instr) (s : State) (X : Prop) : Prop :=
  ((∀ v ∈ operands, isSE32 v = true) → X) ∧
  ((∃ v ∈ operands, isSE32 v = false) → exec i s = .refused .notSignExtended)

/-- X when 64-bit operations are permitted, Reserved Instruction when they are not (spec/30_encoding.md R185). -/
def If64 (i : Instr) (s : State) (X : Prop) : Prop :=
  (Permits64 s → X) ∧ (Forbids64 s → Answers i s (Enters .reservedInstruction s))

/-- X when coprocessor 0 is usable, Coprocessor Unusable when it is not (spec/45_cop0.md R365). -/
def IfCop0 (i : Instr) (s : State) (X : Prop) : Prop :=
  (Cop0Usable s → X) ∧ (Cop0Unusable s → Answers i s (Enters (.coprocessorUnusable 0) s))

/-- X when Status.CU1 is 1, Coprocessor Unusable when it is 0 (spec/46_fpu.md R390). -/
def IfCop1 (i : Instr) (s : State) (X : Prop) : Prop :=
  (s.cp0.status.getLsbD 29 = true → X) ∧
  (s.cp0.status.getLsbD 29 = false → Answers i s (Enters (.coprocessorUnusable 1) s))

/-- X when Status.FR is 1 or every register is even, a refusal otherwise (spec/46_fpu.md R391). -/
def IfFloat (regs : List Reg) (i : Instr) (s : State) (X : Prop) : Prop :=
  ((∀ r ∈ regs, s.cp0.status.getLsbD 26 = true ∨ r.toNat % 2 = 0) → X) ∧
  ((∃ r ∈ regs, s.cp0.status.getLsbD 26 = false ∧ r.toNat % 2 = 1) → exec i s = .refused .oddFloatRegister)

/-- A floating-point operation with result r ends as FpFinish says; `done` says what it then writes
(spec/46_fpu.md R390, R391, R394). -/
def FpAnswers (i : Instr) (s : State) (regs : List Reg) (r : FpResult) (done : Word → State → State → Prop) : Prop :=
  IfCop1 i s (IfFloat regs i s (
    (Traps s.fcr31 r.cause → Answers i s (Enters .floatingPoint { s with fcr31 := causeReplaced s.fcr31 r.cause })) ∧
    (¬ Traps s.fcr31 r.cause → Answers i s (done r.value { s with fcr31 := causeAndFlags s.fcr31 r.cause }))))

/-! ### Memory accesses -/

/-- What an instruction asks of memory: store or load, the alignment it needs, base register and offset. -/
structure Access where
  store  : Bool
  align  : Nat
  base   : Reg
  offset : BitVec 16
deriving DecidableEq, Repr

/-- The access of each instruction that has one (spec/20_memory.md R104, R105). -/
def accessOf (i : Instr) : Option Access :=
  match i with
  | .lb b _ o | .lbu b _ o | .lwl b _ o | .lwr b _ o | .ldl b _ o | .ldr b _ o => some ⟨false, 1, b, o⟩
  | .lh b _ o | .lhu b _ o => some ⟨false, 2, b, o⟩
  | .lw b _ o | .lwu b _ o | .ll b _ o | .lwc1 b _ o => some ⟨false, 4, b, o⟩
  | .ld b _ o | .lld b _ o | .ldc1 b _ o => some ⟨false, 8, b, o⟩
  | .sb b _ o | .swl b _ o | .swr b _ o | .sdl b _ o | .sdr b _ o => some ⟨true, 1, b, o⟩
  | .sh b _ o => some ⟨true, 2, b, o⟩
  | .sw b _ o | .sc b _ o | .swc1 b _ o => some ⟨true, 4, b, o⟩
  | .sd b _ o | .scd b _ o | .sdc1 b _ o => some ⟨true, 8, b, o⟩
  | _ => none

/-- The effective address of an access (spec/40_load_store.md R200). -/
def Access.address (a : Access) (s : State) : Word := readGpr s a.base + BitVec.ofInt 64 a.offset.toInt

/-- The first byte an access reaches, when its effective address translates to p: the right partial forms start at
the beginning of the aligned word or doubleword (spec/40_load_store.md R209, R211, R217, R219). -/
def firstByte (i : Instr) (p : PAddr) : PAddr :=
  match i with
  | .lwr _ _ _ | .swr _ _ _ => p - BitVec.ofNat 32 (p.toNat % 4)
  | .ldr _ _ _ | .sdr _ _ _ => p - BitVec.ofNat 32 (p.toNat % 8)
  | _ => p

/-- Nothing but its memory access can stop this instruction. -/
def Ready (i : Instr) (s : State) : Prop :=
  (needs64 i = true → Permits64 s) ∧
  match i with
  | .lwc1 _ _ _ | .swc1 _ _ _ => s.cp0.status.getLsbD 29 = true
  | .ldc1 _ f _ | .sdc1 _ f _ =>
    s.cp0.status.getLsbD 29 = true ∧ (s.cp0.status.getLsbD 26 = true ∨ f.toNat % 2 = 0)
  | _ => True

/-- What the entry of an exception records of the address (spec/60_exceptions.md R485, R486). -/
def Recorded (e : Exc) (s t : State) : Prop :=
  match e with
  | .addressError _ va => AddressRecorded va s t
  | .tlbModified va | .tlbRefill _ _ va | .tlbInvalid _ va => TlbRecorded va s t
  | _ => True

/-- A TLB entry matches an address in the present address space (spec/20_memory.md R118). -/
def TlbMatches (e : TlbEntry) (va : Word) (s : State) : Prop :=
  e.r = va.extractLsb' 62 2 ∧
  (∀ k < 27, (e.mask.getLsbD k = true ∨ e.vpn2.getLsbD k = va.getLsbD (13 + k))) ∧
  (e.g = true ∨ e.asid = s.cp0.entryHi.asid)

/-! ### Devices -/

/-- What a transfer may change beside the bytes it moves: every byte outside its destination, every slot but the staged
pair and the length, and all else keep their values, and control moves on (spec/61_platform_devices.md R540, R542). -/
structure OnlyTransfer (blk : Block) (staged : List Nat) (dst count : Nat) (s t : State) : Prop where
  others : ∀ a, a < dst ∨ dst + count ≤ a → memByte a t = memByte a s
  slots : ∀ b k, ¬ (b = blk ∧ k ∈ staged) → writeSide b k t = writeSide b k s
  pc : t.pc = nextPc s
  delay : t.delay = none
  rest : { t with
      mem := s.mem, piRegs := s.piRegs, siRegs := s.siRegs, spRegs := s.spRegs, draws := s.draws, pc := s.pc
      delay := s.delay } = s

/-- What a transfer that stopped at a fault leaves: outside the `done` bytes copied to `dst` every byte keeps its value, of
the slots only the trigger has taken the word stored, and the instruction has not retired
(spec/61_platform_devices.md R543). -/
structure PartialTransfer (blk : Block) (trigger : Nat) (dst done : Nat) (s t : State) : Prop where
  others : ∀ a, a < dst ∨ dst + done ≤ a → memByte a t = memByte a s
  slots : ∀ b k, ¬ (b = blk ∧ k = trigger) → writeSide b k t = writeSide b k s
  rest : { t with
      mem := s.mem, piRegs := s.piRegs, siRegs := s.siRegs, spRegs := s.spRegs, draws := s.draws } = s

/-- Slot k of a register block takes v, every other slot, memory and all else keep their values, and control moves on
(spec/61_platform_devices.md R531). -/
structure OnlySlot (blk : Block) (k : Nat) (v : Word32) (s t : State) : Prop where
  value : writeSide blk k t = v
  others : ∀ b j, ¬ (b = blk ∧ j = k) → writeSide b j t = writeSide b j s
  memory : ∀ a, memByte a t = memByte a s
  pc : t.pc = nextPc s
  delay : t.delay = none
  rest : { t with
      viRegs := s.viRegs, piRegs := s.piRegs, siRegs := s.siRegs, spRegs := s.spRegs, spPcRegs := s.spPcRegs
      pc := s.pc, delay := s.delay } = s

/-! ### Coprocessor 0 registers as words -/

/-- EntryLo0 or EntryLo1 as a number (spec/10_state.md R43). -/
def entryLoNumber (r : EntryLo) : Nat :=
  r.page.pfn.toNat * 2 ^ 6 + r.page.c.toNat * 2 ^ 3 + r.page.d.toNat * 4 + r.page.v.toNat * 2 + r.g.toNat

/-- Each register as software sees it (spec/10_state.md R41 to R61); 0 where the number is reserved. -/
def cop0Image (n : Nat) (c : Cp0) : Word :=
  BitVec.ofNat 64 (match n with
    | 0 => c.index.p.toNat * 2 ^ 31 + c.index.index.toNat
    | 1 => c.random.toNat
    | 2 => entryLoNumber c.entryLo0
    | 3 => entryLoNumber c.entryLo1
    | 4 => c.context.pteBase.toNat * 2 ^ 23 + c.context.badVpn2.toNat * 2 ^ 4
    | 5 => c.pageMask.toNat * 2 ^ 13
    | 6 => c.wired.toNat
    | 8 => c.badVAddr.toNat
    | 9 => c.count.toNat
    | 10 => c.entryHi.r.toNat * 2 ^ 62 + c.entryHi.vpn2.toNat * 2 ^ 13 + c.entryHi.asid.toNat
    | 11 => c.compare.toNat
    | 12 => c.status.toNat
    | 13 => c.cause.bd.toNat * 2 ^ 31 + c.cause.ce.toNat * 2 ^ 28 + c.cause.ip.toNat * 2 ^ 8 + c.cause.excCode.toNat * 4
    | 14 => c.epc.toNat
    | 15 => c.prid.toNat
    | 16 => c.config.toNat
    | 17 => c.llAddr.toNat
    | 18 => c.watchLo.toNat
    | 19 => c.watchHi.toNat
    | 20 => c.xcontext.pteBase.toNat * 2 ^ 33 + c.xcontext.r.toNat * 2 ^ 31 + c.xcontext.badVpn2.toNat * 2 ^ 4
    | 26 => c.parityError.toNat
    | 28 => c.tagLo.toNat
    | 30 => c.errorEpc.toNat
    | _ => 0)

/-- The writable bits of each register (spec/45_cop0.md R367). -/
def cop0Mask (n : Nat) : Word :=
  match n with
  | 0 => 0x8000003F
  | 2 | 3 => 0x3FFFFFFF
  | 4 => 0xFFFFFFFFFF800000
  | 5 => 0x01FFE000
  | 6 => 0x3F
  | 9 | 11 | 17 => 0xFFFFFFFF
  | 10 => 0xC00000FFFFFFE0FF
  | 12 => 0xFF57FFFF
  | 13 => 0x300
  | 14 | 30 => 0xFFFFFFFFFFFFFFFF
  | 16 => 0x0F00800F
  | 18 => 0xFFFFFFFB
  | 19 => 0xF
  | 20 => 0xFFFFFFFE00000000
  | 26 => 0xFF
  | 28 => 0x0FFFFFC0
  | _ => 0

/-- Register n takes the writable bits of v; Random restarts with a write of Wired, and the timer line falls with a
write of Compare; nothing else changes, and control moves on (spec/45_cop0.md R367; spec/60_exceptions.md R501). -/
structure OnlyCop0 (n : Nat) (v : Word) (s t : State) : Prop where
  written : cop0Image n t.cp0 = (v &&& cop0Mask n) ||| (cop0Image n s.cp0 &&& ~~~cop0Mask n)
  random : n = 6 → t.cp0.random = 31
  timer : n = 11 → cop0Image 13 t.cp0 = cop0Image 13 s.cp0 &&& ~~~0x8000
  others : ∀ q, q ≠ n → ¬ (n = 6 ∧ q = 1) → ¬ (n = 11 ∧ q = 13) → cop0Image q t.cp0 = cop0Image q s.cp0
  pc : t.pc = nextPc s
  delay : t.delay = none
  memory : ∀ a, memByte a t = memByte a s
  rest : { t with cp0 := s.cp0, pc := s.pc, delay := s.delay } = s

end Sys2Proof.Machine
end

