-- ==== Sys2Proof/Certificates/Slice0/Obligations.lean ====
section
/-! DEFINITION. The statements about the model, for the provers. Each docstring names the rules of the spec it states. -/

section

open Sys2Proof Sys2Proof.Machine

/-! ### Encoding (spec/30_encoding.md) -/

/-- Decoding the encoding of any instruction gives it back, with every operand at every value, also through the bytes
of a table word; and a word that decodes to an instruction is its encoding: no word but one means it
(spec/30_encoding.md R171, R173, R182, R183). -/
def Obligations.DecodeEncode : Prop :=
  (∀ i : Instr, decode (encode i) = .instr i ∧ decodeTableWord 32 (encode i).toNat = some i) ∧
  (∀ (w : Word32) (i : Instr), decode w = .instr i → encode i = w)

/-- Words of the examples of the spec, one for each family. -/
def Obligations.KnownWords : Prop :=
  ∀ p ∈ ([(0x8128FFFF, .lb 9 8 0xFFFF), (0xB9280004, .swr 9 8 4), (0xE1280000, .sc 9 8 0),
      (0x2128FFFF, .addi 9 8 0xFFFF), (0x3C088000, .lui 8 0x8000), (0x012A4022, .sub 9 10 8),
      (0x012A001A, .div 9 10), (0x00004012, .mflo 8), (0x08000400, .j 0x400), (0x0120F809, .jalr 9 31),
      (0x05310003, .bgezal 9 3), (0x012A0034, .teq 9 10 0), (0x0007000D, .brk 0x1C00),
      (0xBD350000, .cache 9 21 0), (0x40086000, .mfc0 8 12), (0x40A85000, .dmtc0 8 10), (0x42000006, .tlbwr),
      (0xC5220004, .lwc1 9 2 4), (0x44C8F800, .ctc1 8 31), (0x45030003, .bc1tl 3),
      (0x46041003, .divS 4 2 0), (0x46201020, .cvtSD 2 0)] : List (Word32 × Instr)),
    decode p.1 = .instr p.2

/-- The words outside the opcode table: reserved encodings, reserved sub-opcodes of the coprocessors after their
usability test, the absent coprocessor 2, and a format and function the floating-point unit lacks, which enters
Floating-Point with Cause E alone (spec/30_encoding.md R180, R181, R184; spec/46_fpu.md R395). -/
def Obligations.ReservedEncodings : Prop :=
  ∀ (w : Word32) (s : State),
    ((opF w).toNat ∈ [19, 28, 29, 30, 31, 51, 59, 50, 54, 58, 62] ∨
      ((opF w).toNat = 0 ∧ (fnF w).toNat ∈ [1, 5, 10, 11, 14, 21, 40, 41, 53, 55, 57, 61]) ∨
      ((opF w).toNat = 1 ∧ ((rtF w).toNat ∈ [4, 5, 6, 7, 13, 15] ∨ 20 ≤ (rtF w).toNat)) →
      ∃ t, execDecoded (decode w) s = .next t ∧ Enters .reservedInstruction s t) ∧
    ((opF w).toNat = 16 ∧
        ((rsF w).toNat ∈ [2, 3, 6, 7, 8, 9, 10, 11, 12, 13, 14, 15] ∨
          (16 ≤ (rsF w).toNat ∧ (fnF w).toNat ∉ [1, 2, 6, 8, 24])) →
      (Cop0Usable s → ∃ t, execDecoded (decode w) s = .next t ∧ Enters .reservedInstruction s t) ∧
      (Cop0Unusable s → ∃ t, execDecoded (decode w) s = .next t ∧ Enters (.coprocessorUnusable 0) s t)) ∧
    ((opF w).toNat = 17 ∧
        ((rsF w).toNat ∈ [3, 7, 9, 10, 11, 12, 13, 14, 15, 18, 19] ∨ 22 ≤ (rsF w).toNat) →
      (s.cp0.status.getLsbD 29 = true → ∃ t, execDecoded (decode w) s = .next t ∧ Enters .reservedInstruction s t) ∧
      (s.cp0.status.getLsbD 29 = false →
        ∃ t, execDecoded (decode w) s = .next t ∧ Enters (.coprocessorUnusable 1) s t)) ∧
    ((opF w).toNat = 18 →
      (s.cp0.status.getLsbD 30 = false →
        ∃ t, execDecoded (decode w) s = .next t ∧ Enters (.coprocessorUnusable 2) s t) ∧
      (s.cp0.status.getLsbD 30 = true → ∃ t, execDecoded (decode w) s = .next t ∧ Enters .reservedInstruction s t)) ∧
    ((opF w).toNat = 17 ∧
        (((rsF w).toNat = 16 ∧ (fnF w).toNat < 48 ∧
            (fnF w).toNat ∉ [0, 1, 2, 3, 4, 5, 6, 7, 8, 9, 10, 11, 12, 13, 14, 15, 33, 36, 37]) ∨
          ((rsF w).toNat = 17 ∧ (fnF w).toNat < 48 ∧
            (fnF w).toNat ∉ [0, 1, 2, 3, 4, 5, 6, 7, 8, 9, 10, 11, 12, 13, 14, 15, 32, 36, 37]) ∨
          (((rsF w).toNat = 20 ∨ (rsF w).toNat = 21) ∧ (fnF w).toNat ∉ [32, 33])) →
      (s.cp0.status.getLsbD 29 = true → ∃ t, execDecoded (decode w) s = .next t ∧
        Enters .floatingPoint { s with fcr31 := causeReplaced s.fcr31 0b100000 } t) ∧
      (s.cp0.status.getLsbD 29 = false →
        ∃ t, execDecoded (decode w) s = .next t ∧ Enters (.coprocessorUnusable 1) s t))

/-- A word that selects an instruction and has a 1 in a should-be-zero position is refused, once the tests that come
before have passed; it is not the instruction's own word (spec/30_encoding.md R182, R183). -/
def Obligations.ShouldBeZeroRefused : Prop :=
  ∀ (w : Word32) (i : Instr) (s : State), decode w = .shouldBeZero i →
    w ≠ encode i ∧
    ((opF w = 16#6 → Cop0Usable s) → (opF w = 17#6 → s.cp0.status.getLsbD 29 = true) →
      (needs64 i = true → Permits64 s) → execDecoded (decode w) s = .refused .shouldBeZero)

/-! ### Step -/

/-- A step whose bytes at PC decode to an instruction runs exactly that instruction, in the state the environment leaves,
then the timer step and interrupt service; an instruction that stops stops the step. Without scheduled moves and reset
inputs the environment leaves the state alone. -/
def Obligations.StepRunsDecoded : Prop :=
  (∀ (s u : State) (p : PAddr) (i : Instr), beginTick s = u → fetchAddress u.pc u = .ok p → PlainRead p 4 u →
    decodeBytes (memByte p.toNat u) (memByte (p.toNat + 1) u) (memByte (p.toNat + 2) u) (memByte (p.toNat + 3) u)
      = .instr i →
    (∀ t, exec i u = .next t →
      step s = .next (interruptService true (timerStep true (Config.countQualifies t.ticks) t))) ∧
    (∀ f, exec i u = .fault f → step s = .fault f) ∧
    (∀ q, exec i u = .refused q → step s = .refused q)) ∧
  (∀ s : State, s.inputs = [] → s.coldResetPin = false → s.softResetPin = false → s.nmiPin = false → beginTick s = s)

/-! ### Integer arithmetic (spec/41_alu.md) -/

/-- Word addition and subtraction: the exact sum in the register, or Integer Overflow with nothing written, or the sum
modulo 2^32 for the forms without a trap (spec/41_alu.md R241, R242, R251 to R254). -/
def Obligations.AddSubtractWord : Prop :=
  ∀ (s : State) (rs rt rd : Reg) (imm : BitVec 16),
    let a := (readGpr s rs).toInt
    let b := (readGpr s rt).toInt
    IfWords [readGpr s rs] (.addi rs rt imm) s (
      (FitsWord (a + imm.toInt) → Answers (.addi rs rt imm) s (OnlyGpr rt (BitVec.ofInt 64 (a + imm.toInt)) s)) ∧
      (¬ FitsWord (a + imm.toInt) → Answers (.addi rs rt imm) s (Enters .integerOverflow s))) ∧
    IfWords [readGpr s rs] (.addiu rs rt imm) s (
      Answers (.addiu rs rt imm) s (OnlyGpr rt (wordOfInt (a + imm.toInt)) s)) ∧
    IfWords [readGpr s rs, readGpr s rt] (.add rs rt rd) s (
      (FitsWord (a + b) → Answers (.add rs rt rd) s (OnlyGpr rd (BitVec.ofInt 64 (a + b)) s)) ∧
      (¬ FitsWord (a + b) → Answers (.add rs rt rd) s (Enters .integerOverflow s))) ∧
    IfWords [readGpr s rs, readGpr s rt] (.addu rs rt rd) s (
      Answers (.addu rs rt rd) s (OnlyGpr rd (wordOfInt (a + b)) s)) ∧
    IfWords [readGpr s rs, readGpr s rt] (.sub rs rt rd) s (
      (FitsWord (a - b) → Answers (.sub rs rt rd) s (OnlyGpr rd (BitVec.ofInt 64 (a - b)) s)) ∧
      (¬ FitsWord (a - b) → Answers (.sub rs rt rd) s (Enters .integerOverflow s))) ∧
    IfWords [readGpr s rs, readGpr s rt] (.subu rs rt rd) s (
      Answers (.subu rs rt rd) s (OnlyGpr rd (wordOfInt (a - b)) s))

/-- Doubleword addition and subtraction (spec/41_alu.md R249, R250, R261 to R264). -/
def Obligations.AddSubtractDouble : Prop :=
  ∀ (s : State) (rs rt rd : Reg) (imm : BitVec 16),
    let a := (readGpr s rs).toInt
    let b := (readGpr s rt).toInt
    If64 (.daddi rs rt imm) s (
      (FitsDouble (a + imm.toInt) → Answers (.daddi rs rt imm) s (OnlyGpr rt (BitVec.ofInt 64 (a + imm.toInt)) s)) ∧
      (¬ FitsDouble (a + imm.toInt) → Answers (.daddi rs rt imm) s (Enters .integerOverflow s))) ∧
    If64 (.daddiu rs rt imm) s (
      Answers (.daddiu rs rt imm) s (OnlyGpr rt (BitVec.ofInt 64 (a + imm.toInt)) s)) ∧
    If64 (.dadd rs rt rd) s (
      (FitsDouble (a + b) → Answers (.dadd rs rt rd) s (OnlyGpr rd (BitVec.ofInt 64 (a + b)) s)) ∧
      (¬ FitsDouble (a + b) → Answers (.dadd rs rt rd) s (Enters .integerOverflow s))) ∧
    If64 (.daddu rs rt rd) s (Answers (.daddu rs rt rd) s (OnlyGpr rd (BitVec.ofInt 64 (a + b)) s)) ∧
    If64 (.dsub rs rt rd) s (
      (FitsDouble (a - b) → Answers (.dsub rs rt rd) s (OnlyGpr rd (BitVec.ofInt 64 (a - b)) s)) ∧
      (¬ FitsDouble (a - b) → Answers (.dsub rs rt rd) s (Enters .integerOverflow s))) ∧
    If64 (.dsubu rs rt rd) s (Answers (.dsubu rs rt rd) s (OnlyGpr rd (BitVec.ofInt 64 (a - b)) s))

/-- Comparisons, logic and LUI: all 64 bits, and no condition on the operands (spec/41_alu.md R243 to R248,
R255 to R260). -/
def Obligations.LogicAndCompare : Prop :=
  ∀ (s : State) (rs rt rd : Reg) (imm : BitVec 16),
    let a := readGpr s rs
    let b := readGpr s rt
    let i := BitVec.ofInt 64 imm.toInt
    let z := BitVec.ofNat 64 imm.toNat
    Answers (.slti rs rt imm) s (OnlyGpr rt (if a.toInt < imm.toInt then 1 else 0) s) ∧
    Answers (.sltiu rs rt imm) s (OnlyGpr rt (if a.toNat < i.toNat then 1 else 0) s) ∧
    Answers (.andi rs rt imm) s (OnlyGpr rt (a &&& z) s) ∧
    Answers (.ori rs rt imm) s (OnlyGpr rt (a ||| z) s) ∧
    Answers (.xori rs rt imm) s (OnlyGpr rt (a ^^^ z) s) ∧
    Answers (.lui rt imm) s (OnlyGpr rt (BitVec.ofInt 64 (imm.toInt * 2 ^ 16)) s) ∧
    Answers (.and rs rt rd) s (OnlyGpr rd (a &&& b) s) ∧
    Answers (.or rs rt rd) s (OnlyGpr rd (a ||| b) s) ∧
    Answers (.xor rs rt rd) s (OnlyGpr rd (a ^^^ b) s) ∧
    Answers (.nor rs rt rd) s (OnlyGpr rd (~~~(a ||| b)) s) ∧
    Answers (.slt rs rt rd) s (OnlyGpr rd (if a.toInt < b.toInt then 1 else 0) s) ∧
    Answers (.sltu rs rt rd) s (OnlyGpr rd (if a.toNat < b.toNat then 1 else 0) s)

/-- Word shifts, as multiplication and division by a power of two (spec/41_alu.md R265 to R270). -/
def Obligations.ShiftWord : Prop :=
  ∀ (s : State) (rs rt rd : Reg) (sa : BitVec 5),
    let x := readGpr s rt
    let v := (readGpr s rs).toNat % 32
    let left (n : Nat) := sextWord (BitVec.ofNat 32 (x.toNat * 2 ^ n))
    let right (n : Nat) := sextWord (BitVec.ofNat 32 (x.toNat % 2 ^ 32 / 2 ^ n))
    let arithmetic (n : Nat) := BitVec.ofInt 64 (x.toInt / 2 ^ n)
    Answers (.sll rt rd sa) s (OnlyGpr rd (left sa.toNat) s) ∧
    Answers (.sllv rs rt rd) s (OnlyGpr rd (left v) s) ∧
    IfWords [x] (.srl rt rd sa) s (Answers (.srl rt rd sa) s (OnlyGpr rd (right sa.toNat) s)) ∧
    IfWords [x] (.srlv rs rt rd) s (Answers (.srlv rs rt rd) s (OnlyGpr rd (right v) s)) ∧
    IfWords [x] (.sra rt rd sa) s (Answers (.sra rt rd sa) s (OnlyGpr rd (arithmetic sa.toNat) s)) ∧
    IfWords [x] (.srav rs rt rd) s (Answers (.srav rs rt rd) s (OnlyGpr rd (arithmetic v) s))

/-- Doubleword shifts, as multiplication and division by a power of two (spec/41_alu.md R271 to R279). -/
def Obligations.ShiftDouble : Prop :=
  ∀ (s : State) (rs rt rd : Reg) (sa : BitVec 5),
    let x := readGpr s rt
    let v := (readGpr s rs).toNat % 64
    let left (n : Nat) := OnlyGpr rd (BitVec.ofNat 64 (x.toNat * 2 ^ n)) s
    let right (n : Nat) := OnlyGpr rd (BitVec.ofNat 64 (x.toNat / 2 ^ n)) s
    let arithmetic (n : Nat) := OnlyGpr rd (BitVec.ofInt 64 (x.toInt / 2 ^ n)) s
    If64 (.dsll rt rd sa) s (Answers (.dsll rt rd sa) s (left sa.toNat)) ∧
    If64 (.dsrl rt rd sa) s (Answers (.dsrl rt rd sa) s (right sa.toNat)) ∧
    If64 (.dsra rt rd sa) s (Answers (.dsra rt rd sa) s (arithmetic sa.toNat)) ∧
    If64 (.dsllv rs rt rd) s (Answers (.dsllv rs rt rd) s (left v)) ∧
    If64 (.dsrlv rs rt rd) s (Answers (.dsrlv rs rt rd) s (right v)) ∧
    If64 (.dsrav rs rt rd) s (Answers (.dsrav rs rt rd) s (arithmetic v)) ∧
    If64 (.dsll32 rt rd sa) s (Answers (.dsll32 rt rd sa) s (left (sa.toNat + 32))) ∧
    If64 (.dsrl32 rt rd sa) s (Answers (.dsrl32 rt rd sa) s (right (sa.toNat + 32))) ∧
    If64 (.dsra32 rt rd sa) s (Answers (.dsra32 rt rd sa) s (arithmetic (sa.toNat + 32)))

/-! ### Multiply and divide (spec/42_muldiv.md) -/

/-- Products in HI and LO, and the moves of HI and LO (spec/42_muldiv.md R292 to R295, R300 to R303). -/
def Obligations.MultiplyAndMoves : Prop :=
  ∀ (s : State) (rs rt rd : Reg),
    let a := readGpr s rs
    let b := readGpr s rt
    let p := a.toInt * b.toInt
    let q := (a.toNat % 2 ^ 32) * (b.toNat % 2 ^ 32)
    let r := a.toNat * b.toNat
    IfWords [a, b] (.mult rs rt) s (Answers (.mult rs rt) s (OnlyHiLo (wordOfInt (p / 2 ^ 32)) (wordOfInt p) s)) ∧
    IfWords [a, b] (.multu rs rt) s (Answers (.multu rs rt) s (OnlyHiLo (wordOfInt (q / 2 ^ 32 : Nat)) (wordOfInt q) s)) ∧
    If64 (.dmult rs rt) s (
      Answers (.dmult rs rt) s (OnlyHiLo (BitVec.ofInt 64 (p / 2 ^ 64)) (BitVec.ofInt 64 p) s)) ∧
    If64 (.dmultu rs rt) s (
      Answers (.dmultu rs rt) s (OnlyHiLo (BitVec.ofNat 64 (r / 2 ^ 64)) (BitVec.ofNat 64 r) s)) ∧
    Answers (.mfhi rd) s (OnlyGpr rd s.hi s) ∧
    Answers (.mthi rs) s (OnlyHiLo a s.lo s) ∧
    Answers (.mflo rd) s (OnlyGpr rd s.lo s) ∧
    Answers (.mtlo rs) s (OnlyHiLo s.hi a s)

/-- Quotients in LO and remainders in HI, signed division truncated toward zero; the two cases the architecture leaves
undefined take the values of DivCorner, whatever they are (spec/42_muldiv.md R291, R296 to R299; log 13). -/
def Obligations.DivideResults : Prop :=
  ∀ (s : State) (rs rt : Reg),
    let a := readGpr s rs
    let b := readGpr s rt
    let n := a.toInt
    let d := b.toInt
    let m := a.toNat % 2 ^ 32
    let e := b.toNat % 2 ^ 32
    let corner (c : Word × Word) := OnlyHiLo c.1 c.2 s
    IfWords [a, b] (.div rs rt) s (Answers (.div rs rt) s (
      if d = 0 then corner (Config.divBy0 a)
      else if n = -(2 ^ 31) ∧ d = -1 then corner Config.divOvf
      else OnlyHiLo (BitVec.ofInt 64 (n.tmod d)) (BitVec.ofInt 64 (n.tdiv d)) s)) ∧
    IfWords [a, b] (.divu rs rt) s (Answers (.divu rs rt) s (
      if e = 0 then corner (Config.divuBy0 a)
      else OnlyHiLo (wordOfInt (m % e : Nat)) (wordOfInt (m / e : Nat)) s)) ∧
    If64 (.ddiv rs rt) s (Answers (.ddiv rs rt) s (
      if d = 0 then corner (Config.ddivBy0 a)
      else if n = -(2 ^ 63) ∧ d = -1 then corner Config.ddivOvf
      else OnlyHiLo (BitVec.ofInt 64 (n.tmod d)) (BitVec.ofInt 64 (n.tdiv d)) s)) ∧
    If64 (.ddivu rs rt) s (Answers (.ddivu rs rt) s (
      if b.toNat = 0 then corner (Config.ddivuBy0 a)
      else OnlyHiLo (BitVec.ofNat 64 (a.toNat % b.toNat)) (BitVec.ofNat 64 (a.toNat / b.toNat)) s))

/-! ### Branches and jumps (spec/43_branch_jump.md) -/

/-- The conditional branches. Taken: the delay slot, then PC + 4 + 4 * offset. Not taken: a plain branch runs its slot
and goes on at PC + 8; a likely branch nullifies its slot (spec/10_state.md R27; spec/43_branch_jump.md R311, R316 to
R325, R330, R331). -/
def Obligations.ConditionalBranches : Prop :=
  ∀ (s : State) (rs rt : Reg) (offset : BitVec 16), s.delay = none →
    let x := readGpr s rs
    let y := readGpr s rt
    (∀ b ∈ ([(.beq rs rt offset, x = y), (.bne rs rt offset, x ≠ y), (.blez rs offset, x.toInt ≤ 0),
        (.bgtz rs offset, 0 < x.toInt), (.bltz rs offset, x.toInt < 0), (.bgez rs offset, 0 ≤ x.toInt)]
        : List (Instr × Prop)),
      (b.2 → Answers b.1 s (OnlyControl (s.pc + 4) (some (targetOf s offset)) s)) ∧
      (¬ b.2 → Answers b.1 s (OnlyControl (s.pc + 4) (some (s.pc + 8)) s))) ∧
    (∀ b ∈ ([(.beql rs rt offset, x = y), (.bnel rs rt offset, x ≠ y), (.blezl rs offset, x.toInt ≤ 0),
        (.bgtzl rs offset, 0 < x.toInt), (.bltzl rs offset, x.toInt < 0), (.bgezl rs offset, 0 ≤ x.toInt)]
        : List (Instr × Prop)),
      (b.2 → Answers b.1 s (OnlyControl (s.pc + 4) (some (targetOf s offset)) s)) ∧
      (¬ b.2 → Answers b.1 s (OnlyControl (s.pc + 8) none s)))

/-- The linking branches write PC + 8 to register 31 whether or not they are taken, and are refused with rs = 31
(spec/43_branch_jump.md R326 to R329). -/
def Obligations.LinkingBranches : Prop :=
  ∀ (s : State) (rs : Reg) (offset : BitVec 16),
    let x := readGpr s rs
    (s.delay = none → rs ≠ 31 →
      (∀ b ∈ ([(.bltzal rs offset, x.toInt < 0), (.bgezal rs offset, 0 ≤ x.toInt)] : List (Instr × Prop)),
        (b.2 → Answers b.1 s (OnlyLink 31 (s.pc + 8) (s.pc + 4) (some (targetOf s offset)) s)) ∧
        (¬ b.2 → Answers b.1 s (OnlyLink 31 (s.pc + 8) (s.pc + 4) (some (s.pc + 8)) s))) ∧
      (∀ b ∈ ([(.bltzall rs offset, x.toInt < 0), (.bgezall rs offset, 0 ≤ x.toInt)] : List (Instr × Prop)),
        (b.2 → Answers b.1 s (OnlyLink 31 (s.pc + 8) (s.pc + 4) (some (targetOf s offset)) s)) ∧
        (¬ b.2 → Answers b.1 s (OnlyLink 31 (s.pc + 8) (s.pc + 8) none s)))) ∧
    (∀ i ∈ ([.bltzal 31 offset, .bgezal 31 offset, .bltzall 31 offset, .bgezall 31 offset] : List Instr),
      exec i s = .refused .linkingBranchOnLink)

/-- The jumps: J and JAL stay in the 256 MB region of the delay slot, JR and JALR go to the register's value as it was;
JALR with rd = rs is refused (spec/43_branch_jump.md R312 to R315). -/
def Obligations.Jumps : Prop :=
  ∀ (s : State) (target : BitVec 26) (rs rd : Reg),
    let region := ((s.pc + 4) &&& 0xFFFFFFFFF0000000) ||| BitVec.ofNat 64 (target.toNat * 4)
    (s.delay = none →
      Answers (.j target) s (OnlyControl (s.pc + 4) (some region) s) ∧
      Answers (.jal target) s (OnlyLink 31 (s.pc + 8) (s.pc + 4) (some region) s) ∧
      Answers (.jr rs) s (OnlyControl (s.pc + 4) (some (readGpr s rs)) s) ∧
      (rd ≠ rs → Answers (.jalr rs rd) s (OnlyLink rd (s.pc + 8) (s.pc + 4) (some (readGpr s rs)) s))) ∧
    exec (.jalr rs rs) s = .refused .jalrSameRegister

/-- A branch, a jump or ERET in a delay slot is refused, taken or not, once its own earlier tests have passed
(spec/10_state.md R28; spec/43_branch_jump.md R332). That a likely branch which is not taken is refused there too is the
model's choice (log 23): R28 speaks of what sets Delay' or PC, and a skip does neither. -/
def Obligations.BranchInDelaySlotRefused : Prop :=
  ∀ (s : State) (rs rt rd : Reg) (offset : BitVec 16) (target : BitVec 26), s.delay ≠ none →
    (∀ i ∈ ([.j target, .jal target, .jr rs, .beq rs rt offset, .bne rs rt offset, .blez rs offset, .bgtz rs offset,
        .beql rs rt offset, .bnel rs rt offset, .blezl rs offset, .bgtzl rs offset, .bltz rs offset, .bgez rs offset,
        .bltzl rs offset, .bgezl rs offset] : List Instr), exec i s = .refused .branchInDelaySlot) ∧
    (rd ≠ rs → exec (.jalr rs rd) s = .refused .branchInDelaySlot) ∧
    (rs ≠ 31 → ∀ i ∈ ([.bltzal rs offset, .bgezal rs offset, .bltzall rs offset, .bgezall rs offset] : List Instr),
      exec i s = .refused .branchInDelaySlot) ∧
    (s.cp0.status.getLsbD 29 = true →
      ∀ i ∈ ([.bc1f offset, .bc1t offset, .bc1fl offset, .bc1tl offset] : List Instr),
        exec i s = .refused .branchInDelaySlot) ∧
    (Cop0Usable s → exec .eret s = .refused .branchInDelaySlot)

/-- Only a branch outside a delay slot opens a delay slot, and the slot is the next word. So with EXL = 0 whatever exception
is taken in the slot records the branch and sets BD, whatever exception is taken elsewhere records its own instruction and
clears BD, and with EXL = 1 both stay; SYSCALL and BREAK take theirs so (spec/60_exceptions.md R480, R481;
spec/43_branch_jump.md R333). -/
def Obligations.DelaySlotExceptions : Prop :=
  (∀ (i : Instr) (s t : State), exec i s = .next t → t.delay.isSome = true →
    s.delay = none ∧ t.pc = s.pc + 4 ∧
    (t.cp0.status.getLsbD 1 = false → ∀ e : Exc,
      (takeException e t).cp0.epc = s.pc ∧ (takeException e t).cp0.cause.bd = true)) ∧
  (∀ (e : Exc) (s : State),
    (s.cp0.status.getLsbD 1 = false → s.delay = none →
      (takeException e s).cp0.epc = s.pc ∧ (takeException e s).cp0.cause.bd = false) ∧
    (s.cp0.status.getLsbD 1 = true →
      (takeException e s).cp0.epc = s.cp0.epc ∧ (takeException e s).cp0.cause.bd = s.cp0.cause.bd)) ∧
  (∀ (code : BitVec 20) (s : State), exec (.syscall code) s = .next (takeException .systemCall s) ∧
    exec (.brk code) s = .next (takeException .breakpoint s))

/-! ### Traps and system instructions (spec/44_trap_system.md) -/

/-- A trap instruction enters Trap when its comparison of all 64 bits holds, and does nothing else
(spec/44_trap_system.md R340 to R352). -/
def Obligations.TrapInstructions : Prop :=
  ∀ (s : State) (rs rt : Reg) (code : BitVec 10) (imm : BitVec 16),
    let x := readGpr s rs
    let y := readGpr s rt
    let z := BitVec.ofInt 64 imm.toInt
    ∀ b ∈ ([(.tge rs rt code, y.toInt ≤ x.toInt), (.tgeu rs rt code, y.toNat ≤ x.toNat),
        (.tlt rs rt code, x.toInt < y.toInt), (.tltu rs rt code, x.toNat < y.toNat), (.teq rs rt code, x = y),
        (.tne rs rt code, x ≠ y), (.tgei rs imm, imm.toInt ≤ x.toInt), (.tgeiu rs imm, z.toNat ≤ x.toNat),
        (.tlti rs imm, x.toInt < imm.toInt), (.tltiu rs imm, x.toNat < z.toNat), (.teqi rs imm, x = z),
        (.tnei rs imm, x ≠ z)] : List (Instr × Prop)),
      (b.2 → Answers b.1 s (Enters .trap s)) ∧ (¬ b.2 → Answers b.1 s (OnlyControl (nextPc s) none s))

/-- SYSCALL and BREAK enter their exceptions; SYNC does nothing; CACHE checks coprocessor 0 and its address and does
nothing else (spec/44_trap_system.md R353, R354, R356, R357). -/
def Obligations.SystemInstructions : Prop :=
  ∀ (s : State) (code : BitVec 20) (base op : Reg) (offset : BitVec 16),
    let va := readGpr s base + BitVec.ofInt 64 offset.toInt
    Answers (.syscall code) s (Enters .systemCall s) ∧
    Answers (.brk code) s (Enters .breakpoint s) ∧
    Answers .sync s (OnlyControl (nextPc s) none s) ∧
    IfCop0 (.cache base op offset) s (
      (∀ p, translate false va s = .ok p → Answers (.cache base op offset) s (OnlyControl (nextPc s) none s)) ∧
      (∀ e, translate false va s = .error (.exc e) →
        Answers (.cache base op offset) s (fun t => Enters e s t ∧ Recorded e s t)))

/-! ### Memory accesses (spec/20_memory.md, spec/40_load_store.md) -/

/-- The aligned loads from memory: big-endian, extended, register and control alone change
(spec/40_load_store.md R200 to R207). -/
def Obligations.LoadsFromMemory : Prop :=
  ∀ (s : State) (base rt : Reg) (offset : BitVec 16) (p : PAddr),
    let va := readGpr s base + BitVec.ofInt 64 offset.toInt
    let byte (k : Nat) : Nat := (memByte (p.toNat + k) s).toNat
    let half := byte 0 * 2 ^ 8 + byte 1
    let word := byte 0 * 2 ^ 24 + byte 1 * 2 ^ 16 + byte 2 * 2 ^ 8 + byte 3
    let double := word * 2 ^ 32 + byte 4 * 2 ^ 24 + byte 5 * 2 ^ 16 + byte 6 * 2 ^ 8 + byte 7
    (dataAddress false 1 va s = .ok p → PlainRead p 1 s →
      Answers (.lb base rt offset) s (OnlyGpr rt ((BitVec.ofNat 8 (byte 0)).signExtend 64) s) ∧
      Answers (.lbu base rt offset) s (OnlyGpr rt (BitVec.ofNat 64 (byte 0)) s)) ∧
    (dataAddress false 2 va s = .ok p → PlainRead p 2 s →
      Answers (.lh base rt offset) s (OnlyGpr rt ((BitVec.ofNat 16 half).signExtend 64) s) ∧
      Answers (.lhu base rt offset) s (OnlyGpr rt (BitVec.ofNat 64 half) s)) ∧
    (dataAddress false 4 va s = .ok p → PlainRead p 4 s →
      Answers (.lw base rt offset) s (OnlyGpr rt ((BitVec.ofNat 32 word).signExtend 64) s) ∧
      If64 (.lwu base rt offset) s (Answers (.lwu base rt offset) s (OnlyGpr rt (BitVec.ofNat 64 word) s))) ∧
    (dataAddress false 8 va s = .ok p → PlainRead p 8 s →
      If64 (.ld base rt offset) s (Answers (.ld base rt offset) s (OnlyGpr rt (BitVec.ofNat 64 double) s)))

/-- The partial loads: the bytes from the address to the end of the aligned word or doubleword go to the top of the
register, the bytes from its start up to the address go to the bottom, the rest of the register stays
(spec/40_load_store.md R208 to R211). -/
def Obligations.PartialLoads : Prop :=
  ∀ (s : State) (base rt : Reg) (offset : BitVec 16) (p : PAddr),
    let va := readGpr s base + BitVec.ofInt 64 offset.toInt
    let b := va.toNat % 4
    let c := va.toNat % 8
    let old := (readGpr s rt).toNat
    dataAddress false 1 va s = .ok p →
    (PlainRead p (4 - b) s →
      Answers (.lwl base rt offset) s (OnlyGpr rt
        (sextWord (BitVec.ofNat 32 ((numberAt p (4 - b) s).toNat * 2 ^ (8 * b) + old % 2 ^ (8 * b)))) s)) ∧
    (PlainRead (p - BitVec.ofNat 32 b) (b + 1) s →
      Answers (.lwr base rt offset) s (OnlyGpr rt
        (sextWord (BitVec.ofNat 32 (old / 2 ^ (8 * (b + 1)) * 2 ^ (8 * (b + 1)) +
          (numberAt (p - BitVec.ofNat 32 b) (b + 1) s).toNat))) s)) ∧
    (PlainRead p (8 - c) s →
      If64 (.ldl base rt offset) s (Answers (.ldl base rt offset) s (OnlyGpr rt
        (BitVec.ofNat 64 ((numberAt p (8 - c) s).toNat * 2 ^ (8 * c) + old % 2 ^ (8 * c))) s))) ∧
    (PlainRead (p - BitVec.ofNat 32 c) (c + 1) s →
      If64 (.ldr base rt offset) s (Answers (.ldr base rt offset) s (OnlyGpr rt
        (BitVec.ofNat 64 (old / 2 ^ (8 * (c + 1)) * 2 ^ (8 * (c + 1)) +
          (numberAt (p - BitVec.ofNat 32 c) (c + 1) s).toNat)) s)))

/-- The stores to memory: big-endian bytes at the translated address, every other byte and all else unchanged
(spec/20_memory.md R131; spec/40_load_store.md R212 to R215). -/
def Obligations.StoresToMemory : Prop :=
  ∀ (s : State) (base rt : Reg) (offset : BitVec 16) (p : PAddr),
    let va := readGpr s base + BitVec.ofInt 64 offset.toInt
    let byte (k : Nat) : Byte := BitVec.ofNat 8 ((readGpr s rt).toNat / 2 ^ (8 * k))
    (dataAddress true 1 va s = .ok p → PlainWrite p 1 s →
      Answers (.sb base rt offset) s (OnlyMemory p.toNat [byte 0] s)) ∧
    (dataAddress true 2 va s = .ok p → PlainWrite p 2 s →
      Answers (.sh base rt offset) s (OnlyMemory p.toNat [byte 1, byte 0] s)) ∧
    (dataAddress true 4 va s = .ok p → PlainWrite p 4 s →
      Answers (.sw base rt offset) s (OnlyMemory p.toNat [byte 3, byte 2, byte 1, byte 0] s)) ∧
    (dataAddress true 8 va s = .ok p → PlainWrite p 8 s →
      If64 (.sd base rt offset) s (Answers (.sd base rt offset) s (OnlyMemory p.toNat
        [byte 7, byte 6, byte 5, byte 4, byte 3, byte 2, byte 1, byte 0] s)))

/-- The partial stores: the most significant bytes of the word or doubleword go from the address to the end of the
aligned unit, the least significant ones from its start up to the address, every other byte is unchanged
(spec/40_load_store.md R216 to R219). -/
def Obligations.PartialStores : Prop :=
  ∀ (s : State) (base rt : Reg) (offset : BitVec 16) (p : PAddr),
    let va := readGpr s base + BitVec.ofInt 64 offset.toInt
    let b := va.toNat % 4
    let c := va.toNat % 8
    let byte (k : Nat) : Byte := BitVec.ofNat 8 ((readGpr s rt).toNat / 2 ^ (8 * k))
    let word := [byte 3, byte 2, byte 1, byte 0]
    let double := [byte 7, byte 6, byte 5, byte 4, byte 3, byte 2, byte 1, byte 0]
    dataAddress true 1 va s = .ok p →
    (PlainWrite p (4 - b) s →
      Answers (.swl base rt offset) s (OnlyMemory p.toNat (word.take (4 - b)) s)) ∧
    (PlainWrite (p - BitVec.ofNat 32 b) (b + 1) s →
      Answers (.swr base rt offset) s (OnlyMemory (p - BitVec.ofNat 32 b).toNat (word.drop (3 - b)) s)) ∧
    (PlainWrite p (8 - c) s →
      If64 (.sdl base rt offset) s (
        Answers (.sdl base rt offset) s (OnlyMemory p.toNat (double.take (8 - c)) s))) ∧
    (PlainWrite (p - BitVec.ofNat 32 c) (c + 1) s →
      If64 (.sdr base rt offset) s (
        Answers (.sdr base rt offset) s (OnlyMemory (p - BitVec.ofNat 32 c).toNat (double.drop (7 - c)) s)))

/-- Load linked sets LLbit and LLAddr; store conditional stores only when LLbit is 1 and leaves LLbit in the register
(spec/40_load_store.md R230 to R233). -/
def Obligations.LinkedAndConditional : Prop :=
  ∀ (s : State) (base rt : Reg) (offset : BitVec 16) (p : PAddr),
    let va := readGpr s base + BitVec.ofInt 64 offset.toInt
    let byte (k : Nat) : Byte := BitVec.ofNat 8 ((readGpr s rt).toNat / 2 ^ (8 * k))
    let linked : State := { s with llbit := true, cp0 := { s.cp0 with llAddr := BitVec.ofNat 32 (p.toNat / 16) } }
    (dataAddress false 4 va s = .ok p → PlainRead p 4 s →
      Answers (.ll base rt offset) s (OnlyGpr rt (((numberAt p 4 s).setWidth 32).signExtend 64) linked)) ∧
    (dataAddress false 8 va s = .ok p → PlainRead p 8 s →
      If64 (.lld base rt offset) s (Answers (.lld base rt offset) s (OnlyGpr rt (numberAt p 8 s) linked))) ∧
    (dataAddress true 4 va s = .ok p →
      (s.llbit = true → PlainWrite p 4 s → Answers (.sc base rt offset) s
        (OnlyGprMemory rt 1 p.toNat [byte 3, byte 2, byte 1, byte 0] s)) ∧
      (s.llbit = false → Answers (.sc base rt offset) s (OnlyGpr rt 0 s))) ∧
    (dataAddress true 8 va s = .ok p → If64 (.scd base rt offset) s (
      (s.llbit = true → PlainWrite p 8 s → Answers (.scd base rt offset) s
        (OnlyGprMemory rt 1 p.toNat
          [byte 7, byte 6, byte 5, byte 4, byte 3, byte 2, byte 1, byte 0] s)) ∧
      (s.llbit = false → Answers (.scd base rt offset) s (OnlyGpr rt 0 s))))

/-- Natural alignment: a misaligned load, store or fetch enters Address Error before translation, with the full address
in BadVAddr and no byte read or written; the partial forms need none (spec/20_memory.md R104; spec/10_state.md R29). -/
def Obligations.MisalignedAccess : Prop :=
  (∀ (i : Instr) (a : Access) (s : State), accessOf i = some a → Ready i s → PlainOrder s →
    (a.address s).toNat % a.align ≠ 0 →
    Answers i s (fun t => Enters (.addressError a.store (a.address s)) s t ∧ AddressRecorded (a.address s) s t)) ∧
  (∀ s : State, PlainOrder s → s.pc.toNat % 4 ≠ 0 →
    ∃ t, instructionStep s = .next t ∧ Enters (.addressError false s.pc) s t ∧ AddressRecorded s.pc s t)

/-- The segments: an address outside the segments of the mode is an Address Error, kseg0, kseg1, xkphys and, under ERL,
the low 2 GB are unmapped, everything else goes to the TLB (spec/20_memory.md R110 to R113). -/
def Obligations.SegmentValidity : Prop :=
  ∀ (store : Bool) (va : Word) (s : State) (m : Mode), modeOf s.cp0.status = some m →
    let v := va.toNat
    let erl := s.cp0.status.getLsbD 2
    let wide := match m with
      | .kernel => s.cp0.status.getLsbD 7 | .supervisor => s.cp0.status.getLsbD 6 | .user => s.cp0.status.getLsbD 5
    let low := if wide then v < 2 ^ 40 else v < 2 ^ 31
    let supervisor := wide = true ∧ 0x4000000000000000 ≤ v ∧ v < 0x4000010000000000
    let kseg01 := 0xFFFFFFFF80000000 ≤ v ∧ v < 0xFFFFFFFFC0000000
    let sseg := 0xFFFFFFFFC0000000 ≤ v ∧ v < 0xFFFFFFFFE0000000
    let kseg3 := 0xFFFFFFFFE0000000 ≤ v
    let xkphys := wide = true ∧ 0x8000000000000000 ≤ v ∧ v < 0xC000000000000000 ∧ v / 2 ^ 32 % 2 ^ 27 = 0
    let xkseg := wide = true ∧ 0xC000000000000000 ≤ v ∧ v < 0xC00000FF80000000
    let unmapped := m = .kernel ∧ (kseg01 ∨ xkphys ∨ (low ∧ erl = true ∧ v < 2 ^ 31))
    let valid := low ∨ (m ≠ .user ∧ (supervisor ∨ sseg)) ∨ (m = .kernel ∧ (kseg01 ∨ kseg3 ∨ xkphys ∨ xkseg))
    (¬ valid → translate store va s = .error (.exc (.addressError store va))) ∧
    (unmapped → translate store va s = .ok (BitVec.ofNat 32 (if kseg01 then v % 2 ^ 29 else v))) ∧
    (valid → ¬ unmapped → translate store va s = tlbTranslate store wide va s)

/-- Translation by the TLB: no entry matches: Refill. One matches: the page that bit 12 + k of the address selects,
Invalid, Modified, or its frame with the offset in the page. Two match, or the Mask is illegal: refused
(spec/20_memory.md R118 to R121; spec/10_state.md R45). -/
def Obligations.TlbTranslation : Prop :=
  ∀ (store wide : Bool) (va : Word) (s : State),
    ((∀ i : Fin 32, ¬ TlbMatches s.tlb[i] va s) →
      tlbTranslate store wide va s = .error (.exc (.tlbRefill store wide va))) ∧
    (∀ i j : Fin 32, i ≠ j → TlbMatches s.tlb[i] va s → TlbMatches s.tlb[j] va s →
      tlbTranslate store wide va s = .error (.refused .multipleTlbMatch)) ∧
    (∀ i : Fin 32, (∀ j, TlbMatches s.tlb[j] va s ↔ j = i) →
      (∀ k ∈ [0, 2, 4, 6, 8, 10, 12], s.tlb[i].mask.toNat = 2 ^ k - 1 →
        let page := if va.getLsbD (12 + k) then s.tlb[i].page1 else s.tlb[i].page0
        (page.v = false → tlbTranslate store wide va s = .error (.exc (.tlbInvalid store va))) ∧
        (page.v = true → store = true → page.d = false →
          tlbTranslate store wide va s = .error (.exc (.tlbModified va))) ∧
        (page.v = true → (store = true → page.d = true) →
          tlbTranslate store wide va s = .ok (BitVec.ofNat 32
            (page.pfn.toNat % 2 ^ 20 / 2 ^ k * 2 ^ (12 + k) + va.toNat % 2 ^ (12 + k))))) ∧
      ((∀ k ∈ [0, 2, 4, 6, 8, 10, 12], s.tlb[i].mask.toNat ≠ 2 ^ k - 1) →
        tlbTranslate store wide va s = .error (.refused .illegalPageMask)))

/-- An access or a fetch whose checks raise an exception enters it, records what the exception records and has no
other effect (spec/20_memory.md R122, R131; spec/60_exceptions.md R485, R486). -/
def Obligations.AccessExceptions : Prop :=
  (∀ (i : Instr) (a : Access) (s : State) (e : Exc), accessOf i = some a → Ready i s →
    dataAddress a.store a.align (a.address s) s = .error (.exc e) →
    Answers i s (fun t => Enters e s t ∧ Recorded e s t)) ∧
  (∀ (s : State) (e : Exc), fetchAddress s.pc s = .error (.exc e) →
    ∃ t, instructionStep s = .next t ∧ Enters e s t ∧ Recorded e s t)

/-- The watchpoint: a data access whose doubleword is watched for its kind enters Watch, and is refused while EXL or ERL
is set; nothing else is watched. And byte order cannot be switched: every access and fetch of user mode with Status.RE
set is refused (spec/60_exceptions.md R488; spec/20_memory.md R101). That this refusal comes before the exceptions of a
misaligned or invalid address is the model's choice (log 24). -/
def Obligations.WatchAndByteOrder : Prop :=
  (∀ (store : Bool) (n : Nat) (va : Word) (p : PAddr) (s : State), PlainOrder s → va.toNat % n = 0 →
    translate store va s = .ok p →
    let watched := p.toNat / 8 = s.cp0.watchLo.toNat / 8 ∧ s.cp0.watchHi = 0 ∧
      s.cp0.watchLo.getLsbD (if store then 0 else 1) = true
    let masked := s.cp0.status.getLsbD 1 = true ∨ s.cp0.status.getLsbD 2 = true
    (watched → ¬ masked → dataAddress store n va s = .error (.exc .watch)) ∧
    (watched → masked → dataAddress store n va s = .error (.refused .watchPostponed)) ∧
    (¬ watched → dataAddress store n va s = .ok p)) ∧
  (∀ s : State, modeOf s.cp0.status = some .user → s.cp0.status.getLsbD 25 = true →
    (∀ (store : Bool) (n : Nat) (va : Word), dataAddress store n va s = .error (.refused .reverseEndian)) ∧
    (∀ (i : Instr) (a : Access), accessOf i = some a → Ready i s → exec i s = .refused .reverseEndian) ∧
    instructionStep s = .refused .reverseEndian)

/-- An access that no device claims, or to RDRAM that is not populated, stops the machine with the offending address
(spec/20_memory.md R143, R151). -/
def Obligations.BusFaults : Prop :=
  ∀ (i : Instr) (a : Access) (s : State) (p : PAddr), accessOf i = some a → Ready i s →
    dataAddress a.store a.align (a.address s) s = .ok p →
    (∀ b r o, i = .sc b r o ∨ i = .scd b r o → s.llbit = true) →
    let q := firstByte i p
    (resolve q = none ∨ (s.rdramSize ≤ q.toNat ∧ q.toNat ≤ 0x03EFFFFF)) →
    exec i s = .fault (.busFault q)

/-- Stores to the read-only images and to the unmodelled registers change nothing. A load of any width from the unmodelled
registers, or from CART_ROM beyond the end of the image, answers whatever it reads, and changes nothing else; a load from
the cartridge image reads the image's bytes (spec/20_memory.md R152; spec/61_platform_devices.md R570). The image is what
memory lists there (log 7). -/
def Obligations.SilentDevices : Prop :=
  ∀ (s : State) (base rt : Reg) (offset : BitVec 16) (p : PAddr) (slot : Slot) (off : Nat),
    let va := readGpr s base + BitVec.ofInt 64 offset.toInt
    resolve p = some (slot, off) →
    (slot ∈ ([.cartRom, .pifRom, .rdramReg, .dpcReg, .dpsReg, .miReg, .aiReg, .riReg] : List Slot) →
      (dataAddress true 1 va s = .ok p → Answers (.sb base rt offset) s (OnlyControl (nextPc s) none s)) ∧
      (dataAddress true 2 va s = .ok p → Answers (.sh base rt offset) s (OnlyControl (nextPc s) none s)) ∧
      (dataAddress true 4 va s = .ok p → Answers (.sw base rt offset) s (OnlyControl (nextPc s) none s)) ∧
      (dataAddress true 8 va s = .ok p →
        If64 (.sd base rt offset) s (Answers (.sd base rt offset) s (OnlyControl (nextPc s) none s)))) ∧
    (slot ∈ ([.cartRom, .rdramReg, .dpcReg, .dpsReg, .miReg, .aiReg, .riReg] : List Slot) →
      let b := va.toNat % 4
      let c := va.toNat % 8
      let old := (readGpr s rt).toNat
      let linked : State := { s with llbit := true, cp0 := { s.cp0 with llAddr := BitVec.ofNat 32 (p.toNat / 16) } }
      -- i leaves in rt what `value` makes of some number of n bytes, and nothing else in u changes
      let reads (i : Instr) (n : Nat) (value : Nat → Word) (u : State) : Prop :=
        Answers i s (fun t => ∃ v < 2 ^ (8 * n), OnlyGpr rt (value v) { u with draws := t.draws } t)
      (dataAddress false 1 va s = .ok p →
        reads (.lb base rt offset) 1 (fun v => (BitVec.ofNat 8 v).signExtend 64) s ∧
        reads (.lbu base rt offset) 1 (BitVec.ofNat 64) s ∧
        reads (.lwl base rt offset) (4 - b) (fun v => sextWord (BitVec.ofNat 32 (v * 2 ^ (8 * b) + old % 2 ^ (8 * b)))) s ∧
        reads (.lwr base rt offset) (b + 1) (fun v => sextWord (BitVec.ofNat 32
          (old / 2 ^ (8 * (b + 1)) * 2 ^ (8 * (b + 1)) + v))) s ∧
        If64 (.ldl base rt offset) s (reads (.ldl base rt offset) (8 - c)
          (fun v => BitVec.ofNat 64 (v * 2 ^ (8 * c) + old % 2 ^ (8 * c))) s) ∧
        If64 (.ldr base rt offset) s (reads (.ldr base rt offset) (c + 1)
          (fun v => BitVec.ofNat 64 (old / 2 ^ (8 * (c + 1)) * 2 ^ (8 * (c + 1)) + v)) s)) ∧
      (dataAddress false 2 va s = .ok p →
        reads (.lh base rt offset) 2 (fun v => (BitVec.ofNat 16 v).signExtend 64) s ∧
        reads (.lhu base rt offset) 2 (BitVec.ofNat 64) s) ∧
      (dataAddress false 4 va s = .ok p →
        reads (.lw base rt offset) 4 (fun v => (BitVec.ofNat 32 v).signExtend 64) s ∧
        If64 (.lwu base rt offset) s (reads (.lwu base rt offset) 4 (BitVec.ofNat 64) s) ∧
        reads (.ll base rt offset) 4 (fun v => (BitVec.ofNat 32 v).signExtend 64) linked ∧
        IfCop1 (.lwc1 base rt offset) s (Answers (.lwc1 base rt offset) s (fun t => ∃ v, OnlyF32 rt v s t))) ∧
      (dataAddress false 8 va s = .ok p →
        If64 (.ld base rt offset) s (reads (.ld base rt offset) 8 (BitVec.ofNat 64) s) ∧
        If64 (.lld base rt offset) s (reads (.lld base rt offset) 8 (BitVec.ofNat 64) linked) ∧
        IfCop1 (.ldc1 base rt offset) s (IfFloat [rt] (.ldc1 base rt offset) s (
          Answers (.ldc1 base rt offset) s (fun t => ∃ v, OnlyCell rt v { s with draws := t.draws } t))))) ∧
    (slot = .cartRom →
      let inImage (n : Nat) : Prop := ∀ k < n, Memory.lookup (p.toNat + k) s.mem ≠ none
      (dataAddress false 1 va s = .ok p → inImage 1 →
        Answers (.lb base rt offset) s (OnlyGpr rt (((numberAt p 1 s).setWidth 8).signExtend 64) s) ∧
        Answers (.lbu base rt offset) s (OnlyGpr rt (numberAt p 1 s) s)) ∧
      (dataAddress false 2 va s = .ok p → inImage 2 →
        Answers (.lh base rt offset) s (OnlyGpr rt (((numberAt p 2 s).setWidth 16).signExtend 64) s) ∧
        Answers (.lhu base rt offset) s (OnlyGpr rt (numberAt p 2 s) s)) ∧
      (dataAddress false 4 va s = .ok p → inImage 4 →
        Answers (.lw base rt offset) s (OnlyGpr rt (((numberAt p 4 s).setWidth 32).signExtend 64) s) ∧
        If64 (.lwu base rt offset) s (Answers (.lwu base rt offset) s (OnlyGpr rt (numberAt p 4 s) s))) ∧
      (dataAddress false 8 va s = .ok p → inImage 8 →
        If64 (.ld base rt offset) s (Answers (.ld base rt offset) s (OnlyGpr rt (numberAt p 8 s) s))))

/-! ### Coprocessor 0 (spec/45_cop0.md) -/

/-- MFC0 reads every register as its layout says, its low word sign-extended; Random reads a value between Wired and 31,
a reserved number any value (spec/45_cop0.md R366; spec/10_state.md R41 to R62). That Random keeps the value read is the
model's choice (log 9). -/
def Obligations.MoveFromCop0 : Prop :=
  ∀ (s : State) (rt rd : Reg), IfCop0 (.mfc0 rt rd) s (
    (rd.toNat ∉ [1, 7, 21, 22, 23, 24, 25, 31] →
      Answers (.mfc0 rt rd) s (OnlyGpr rt (((cop0Image rd.toNat s.cp0).setWidth 32).signExtend 64) s)) ∧
    (rd.toNat = 1 → s.cp0.wired.toNat ≤ 31 → Answers (.mfc0 rt rd) s (fun t => ∃ r : BitVec 6,
      s.cp0.wired.toNat ≤ r.toNat ∧ r.toNat ≤ 31 ∧
      OnlyGpr rt (r.setWidth 64) { s with draws := t.draws, cp0 := { s.cp0 with random := r } } t)) ∧
    (rd.toNat ∈ [7, 21, 22, 23, 24, 25, 31] → Answers (.mfc0 rt rd) s (fun t => ∃ v : Word32,
      OnlyGpr rt (v.signExtend 64) { s with draws := t.draws } t)))

/-- MTC0 stores the sign-extended low word under the register's mask, with the side effects of Wired and Compare, and
nothing else; a write that clears Config.BE is refused (spec/45_cop0.md R367; spec/20_memory.md R101;
spec/60_exceptions.md R501). -/
def Obligations.MoveToCop0 : Prop :=
  ∀ (s : State) (rt rd : Reg), Inv s →
    let v := ((readGpr s rt).setWidth 32).signExtend 64
    IfCop0 (.mtc0 rt rd) s (
      (rd.toNat ≠ 16 ∨ v.getLsbD 15 = true → Answers (.mtc0 rt rd) s (OnlyCop0 rd.toNat v s)) ∧
      (rd.toNat = 16 → v.getLsbD 15 = false → exec (.mtc0 rt rd) s = .refused .littleEndian))

/-- DMFC0 and DMTC0 move all 64 bits of a 64-bit register; DMFC0 of another register answers any value; DMTC0 to one is
ignored where the register cannot be written and refused otherwise (spec/45_cop0.md R368, R369). -/
def Obligations.DoubleMovesOfCop0 : Prop :=
  ∀ (s : State) (rt rd : Reg),
    let wide := rd.toNat ∈ [2, 3, 4, 8, 10, 14, 20, 30]
    let fixed := rd.toNat ∈ [1, 7, 15, 21, 22, 23, 24, 25, 27, 29, 31]
    IfCop0 (.dmfc0 rt rd) s (If64 (.dmfc0 rt rd) s (
      (wide → Answers (.dmfc0 rt rd) s (OnlyGpr rt (cop0Image rd.toNat s.cp0) s)) ∧
      (¬ wide → Answers (.dmfc0 rt rd) s (fun t => ∃ v, OnlyGpr rt v { s with draws := t.draws } t)))) ∧
    IfCop0 (.dmtc0 rt rd) s (If64 (.dmtc0 rt rd) s (
      (wide → Answers (.dmtc0 rt rd) s (OnlyCop0 rd.toNat (readGpr s rt) s)) ∧
      (fixed → Answers (.dmtc0 rt rd) s (OnlyControl (nextPc s) none s)) ∧
      (¬ wide → ¬ fixed → exec (.dmtc0 rt rd) s = .refused .dmtc0OfWordRegister)))

/-- The TLB instructions: read, write at Index, write at a Random between Wired and 31, probe; each changes its own
registers or its own entry and nothing else (spec/45_cop0.md R370 to R373). That Random keeps the value TLBWR used is the
model's choice (log 9). -/
def Obligations.TlbInstructions : Prop :=
  ∀ s : State,
    let c := s.cp0
    let n := c.index.index.toNat
    let entry : TlbEntry :=
      { mask := c.pageMask, r := c.entryHi.r, vpn2 := c.entryHi.vpn2, asid := c.entryHi.asid
        g := c.entryLo0.g && c.entryLo1.g, page0 := c.entryLo0.page, page1 := c.entryLo1.page }
    let probed (e : TlbEntry) := e.r = c.entryHi.r ∧ (e.g = true ∨ e.asid = c.entryHi.asid) ∧
      ∀ k < 27, e.mask.getLsbD k = true ∨ e.vpn2.getLsbD k = c.entryHi.vpn2.getLsbD k
    IfCop0 .tlbr s (
      (∀ h : n < 32, Answers .tlbr s (OnlyControl (nextPc s) none { s with cp0 := { c with
        pageMask := s.tlb[n].mask
        entryHi := { r := s.tlb[n].r, vpn2 := s.tlb[n].vpn2 &&& ~~~(s.tlb[n].mask.setWidth 27), asid := s.tlb[n].asid }
        entryLo0 := { page := s.tlb[n].page0, g := s.tlb[n].g }
        entryLo1 := { page := s.tlb[n].page1, g := s.tlb[n].g } } })) ∧
      (32 ≤ n → exec .tlbr s = .refused .indexOutOfRange)) ∧
    IfCop0 .tlbwi s (
      (∀ h : n < 32, Answers .tlbwi s (OnlyControl (nextPc s) none { s with tlb := s.tlb.set n entry })) ∧
      (32 ≤ n → exec .tlbwi s = .refused .indexOutOfRange)) ∧
    IfCop0 .tlbwr s (
      (c.wired.toNat ≤ 31 → Answers .tlbwr s (fun t => ∃ (r : BitVec 6) (h : r.toNat < 32), c.wired.toNat ≤ r.toNat ∧
        OnlyControl (nextPc s) none
          { s with tlb := s.tlb.set r.toNat entry, draws := t.draws, cp0 := { c with random := r } } t)) ∧
      (31 < c.wired.toNat → exec .tlbwr s = .refused .wiredOutOfRange)) ∧
    IfCop0 .tlbp s (
      ((∀ i : Fin 32, ¬ probed s.tlb[i]) → Answers .tlbp s (fun t => ∃ x : BitVec 6, OnlyControl (nextPc s) none
        { s with draws := t.draws, cp0 := { c with index := { p := true, index := x } } } t)) ∧
      (∀ i : Fin 32, (∀ j : Fin 32, probed s.tlb[j] ↔ j = i) → Answers .tlbp s (OnlyControl (nextPc s) none
        { s with cp0 := { c with index := { p := false, index := BitVec.ofNat 6 i.val } } })) ∧
      (∀ i j : Fin 32, i ≠ j → probed s.tlb[i] → probed s.tlb[j] → exec .tlbp s = .refused .multipleTlbMatch))

/-- ERET goes to ErrorEPC and clears ERL, or to EPC and clears EXL, clears LLbit, has no delay slot and changes nothing
else (spec/45_cop0.md R374; spec/60_exceptions.md R490). -/
def Obligations.ReturnFromException : Prop :=
  ∀ s : State, IfCop0 .eret s (s.delay = none →
    (s.cp0.status.getLsbD 2 = true → exec .eret s = .next { s with
      pc := s.cp0.errorEpc, llbit := false, cp0 := { s.cp0 with status := s.cp0.status &&& 0xFFFFFFFB } }) ∧
    (s.cp0.status.getLsbD 2 = false → exec .eret s = .next { s with
      pc := s.cp0.epc, llbit := false, cp0 := { s.cp0 with status := s.cp0.status &&& 0xFFFFFFFD } }))

/-- Which instructions a mode may run: those of opcode 16 and CACHE need coprocessor 0, those of opcode 17 and the
floating-point loads and stores need CU1, the 64-bit-only ones need 64-bit operations, which kernel mode always has
(spec/30_encoding.md R184, R185; spec/60_exceptions.md R463). -/
def Obligations.PrivilegedInstructions : Prop :=
  (∀ (i : Instr) (s : State), (opF (encode i)).toNat ∈ [16, 47] → Cop0Unusable s →
    Answers i s (Enters (.coprocessorUnusable 0) s)) ∧
  (∀ (i : Instr) (s : State), (opF (encode i)).toNat ∈ [17, 49, 53, 57, 61] → s.cp0.status.getLsbD 29 = false →
    Answers i s (Enters (.coprocessorUnusable 1) s)) ∧
  (∀ (i : Instr) (s : State), needs64 i = true → Forbids64 s → ¬ Cop0Unusable s ∨ (opF (encode i)).toNat ≠ 16 →
    Answers i s (Enters .reservedInstruction s)) ∧
  (∀ s : State, modeOf s.cp0.status = some .kernel → Permits64 s ∧ Cop0Usable s)

/-! ### Floating point (spec/46_fpu.md, spec/47_fpu_arith.md) -/

/-- Floating-point loads and stores, and the two views of the cells: with FR = 0 an odd register is the high half of the
even cell below it; a cell whose halves were written under the present FR reads as its contents, and reads so again after
two moves to Status that change FR and change it back (spec/46_fpu.md R391, R397 to R400; spec/10_state.md R31 to R33).
That the halves remember the FR of their write and that the contents come back is the model's choice (log 39). That the odd
register of LDC1 and SDC1 is refused before the address is tested is the model's choice too (log 40). -/
def Obligations.FloatLoadsAndStores : Prop :=
  (∀ (s : State) (i : Reg),
    let bits := s.fgr[i.toNat]'(i.isLt)
    let now := s.cp0.status.getLsbD 26
    (s.fgrLowFr[i.toNat]'(i.isLt) = now → s.fgrHighFr[i.toNat]'(i.isLt) = now → cell s i = bits) ∧
    (now = true ∨ i.toNat % 2 = 0 → readF32 s i = (cell s i).setWidth 32) ∧
    (now = false → i.toNat % 2 = 1 →
      readF32 s i = BitVec.ofNat 32 ((cell s (BitVec.ofNat 5 (i.toNat - 1))).toNat / 2 ^ 32))) ∧
  (∀ (s t u : State) (r q : Reg), exec (.mtc0 r 12) s = .next t → exec (.mtc0 q 12) t = .next u →
    u.cp0.status.getLsbD 26 = s.cp0.status.getLsbD 26 → ∀ i : Reg,
      s.fgrLowFr[i.toNat]'(i.isLt) = s.cp0.status.getLsbD 26 → s.fgrHighFr[i.toNat]'(i.isLt) = s.cp0.status.getLsbD 26 →
      cell u i = cell s i) ∧
  ∀ (s : State) (base ft : Reg) (offset : BitVec 16) (p : PAddr),
    let va := readGpr s base + BitVec.ofInt 64 offset.toInt
    let byte (v : Nat) (k : Nat) : Byte := BitVec.ofNat 8 (v / 2 ^ (8 * k))
    let w := (readF32 s ft).toNat
    let d := (cell s ft).toNat
    IfCop1 (.lwc1 base ft offset) s (dataAddress false 4 va s = .ok p → PlainRead p 4 s →
      Answers (.lwc1 base ft offset) s (OnlyF32 ft ((numberAt p 4 s).setWidth 32) s)) ∧
    IfCop1 (.ldc1 base ft offset) s (IfFloat [ft] (.ldc1 base ft offset) s (
      dataAddress false 8 va s = .ok p → PlainRead p 8 s →
      Answers (.ldc1 base ft offset) s (OnlyCell ft (numberAt p 8 s) s))) ∧
    IfCop1 (.swc1 base ft offset) s (dataAddress true 4 va s = .ok p → PlainWrite p 4 s →
      Answers (.swc1 base ft offset) s (OnlyMemory p.toNat [byte w 3, byte w 2, byte w 1, byte w 0] s)) ∧
    IfCop1 (.sdc1 base ft offset) s (IfFloat [ft] (.sdc1 base ft offset) s (
      dataAddress true 8 va s = .ok p → PlainWrite p 8 s →
      Answers (.sdc1 base ft offset) s (OnlyMemory p.toNat
        [byte d 7, byte d 6, byte d 5, byte d 4, byte d 3, byte d 2, byte d 1, byte d 0] s)))

/-- The moves between the register files, the control registers and MOV.fmt; the write of FCR31 stands also when it
raises Floating-Point (spec/46_fpu.md R401 to R406; spec/47_fpu_arith.md R421). The six Cause bits after a MOV.fmt are any
value (U31; log 26). That MOV.S runs with an odd register and FR = 0 is the model's choice (log 26). -/
def Obligations.FloatMoves : Prop :=
  ∀ (s : State) (rt fs fd : Reg),
    let v := (readGpr s rt).setWidth 32
    let f := v &&& 0x0183FFFF
    IfCop1 (.mfc1 rt fs) s (Answers (.mfc1 rt fs) s (OnlyGpr rt ((readF32 s fs).signExtend 64) s)) ∧
    IfCop1 (.dmfc1 rt fs) s (IfFloat [fs] (.dmfc1 rt fs) s (
      Answers (.dmfc1 rt fs) s (OnlyGpr rt (cell s fs) s))) ∧
    IfCop1 (.mtc1 rt fs) s (Answers (.mtc1 rt fs) s (OnlyF32 fs v s)) ∧
    IfCop1 (.dmtc1 rt fs) s (IfFloat [fs] (.dmtc1 rt fs) s (
      Answers (.dmtc1 rt fs) s (OnlyCell fs (readGpr s rt) s))) ∧
    IfCop1 (.cfc1 rt fs) s (
      (fs.toNat = 0 → Answers (.cfc1 rt fs) s (OnlyGpr rt (s.fcr0.signExtend 64) s)) ∧
      (fs.toNat = 31 → Answers (.cfc1 rt fs) s (OnlyGpr rt (s.fcr31.signExtend 64) s)) ∧
      (fs.toNat ≠ 0 → fs.toNat ≠ 31 →
        Answers (.cfc1 rt fs) s (fun t => ∃ x, OnlyGpr rt x { s with draws := t.draws } t))) ∧
    IfCop1 (.ctc1 rt fs) s (
      (fs.toNat = 31 → ¬ Traps f (f.extractLsb' 12 6) →
        Answers (.ctc1 rt fs) s (OnlyControl (nextPc s) none { s with fcr31 := f })) ∧
      (fs.toNat = 31 → Traps f (f.extractLsb' 12 6) →
        Answers (.ctc1 rt fs) s (Enters .floatingPoint { s with fcr31 := f })) ∧
      (fs.toNat ≠ 31 → Answers (.ctc1 rt fs) s (OnlyControl (nextPc s) none s))) ∧
    IfCop1 (.movS fs fd) s (Answers (.movS fs fd) s (fun t => ∃ c : BitVec 6,
      OnlyF32 fd (readF32 s fs) { s with fcr31 := causeReplaced s.fcr31 c } t)) ∧
    IfCop1 (.movD fs fd) s (IfFloat [fs, fd] (.movD fs fd) s (Answers (.movD fs fd) s (fun t => ∃ c : BitVec 6,
      OnlyCell fd (cell s fs) { s with fcr31 := causeReplaced s.fcr31 c, draws := t.draws } t)))

/-- The branches on FCR31.C (spec/46_fpu.md R410 to R413). -/
def Obligations.FloatBranches : Prop :=
  ∀ (s : State) (offset : BitVec 16), s.delay = none →
    let c := s.fcr31.getLsbD 23
    (∀ b ∈ ([(.bc1f offset, !c), (.bc1t offset, c)] : List (Instr × Bool)), IfCop1 b.1 s (
      (b.2 = true → Answers b.1 s (OnlyControl (s.pc + 4) (some (targetOf s offset)) s)) ∧
      (b.2 = false → Answers b.1 s (OnlyControl (s.pc + 4) (some (s.pc + 8)) s)))) ∧
    (∀ b ∈ ([(.bc1fl offset, !c), (.bc1tl offset, c)] : List (Instr × Bool)), IfCop1 b.1 s (
      (b.2 = true → Answers b.1 s (OnlyControl (s.pc + 4) (some (targetOf s offset)) s)) ∧
      (b.2 = false → Answers b.1 s (OnlyControl (s.pc + 8) none s))))

/-- Arithmetic with an S or D result: the numerics of each instruction, and FpFinish: all six Cause bits replaced; then
Floating-Point with destination and flags unchanged, or the sticky flags and the result (spec/46_fpu.md R394;
spec/47_fpu_arith.md R415 to R420, R422, R432, R433). The numbers themselves are the model's reference definition of
FpNumerics (log 14). -/
def Obligations.FloatArithmetic : Prop :=
  ∀ (s : State) (ft fs fd : Reg),
    let env : FpEnv := { rm := s.fcr31.extractLsb' 0 2, fs := s.fcr31.getLsbD 24, enable := s.fcr31.extractLsb' 7 5 }
    let single (v : Word) := OnlyF32 fd (v.setWidth 32)
    let double (v : Word) := OnlyCell fd v
    let word (r : Reg) : Word := (readF32 s r).setWidth 64
    let long (r : Reg) : Word := cell s r
    (∀ p ∈ ([(.addS ft fs fd, fpAdd .single), (.subS ft fs fd, fpSub .single), (.mulS ft fs fd, fpMul .single),
        (.divS ft fs fd, fpDiv .single)] : List (Instr × (FpEnv → Word → Word → FpResult))),
      FpAnswers p.1 s [fs, ft, fd] (p.2 env (word fs) (word ft)) single) ∧
    (∀ p ∈ ([(.addD ft fs fd, fpAdd .double), (.subD ft fs fd, fpSub .double), (.mulD ft fs fd, fpMul .double),
        (.divD ft fs fd, fpDiv .double)] : List (Instr × (FpEnv → Word → Word → FpResult))),
      FpAnswers p.1 s [fs, ft, fd] (p.2 env (long fs) (long ft)) double) ∧
    (∀ p ∈ ([(.sqrtS fs fd, fpSqrt .single env (word fs)), (.absS fs fd, fpAbs .single env (word fs)),
        (.negS fs fd, fpNeg .single env (word fs)), (.cvtSD fs fd, fpToFmt .double .single env (long fs)),
        (.cvtSW fs fd, fpOfW .single env (word fs)), (.cvtSL fs fd, fpOfL .single env (long fs))]
        : List (Instr × FpResult)), FpAnswers p.1 s [fs, fd] p.2 single) ∧
    (∀ p ∈ ([(.sqrtD fs fd, fpSqrt .double env (long fs)), (.absD fs fd, fpAbs .double env (long fs)),
        (.negD fs fd, fpNeg .double env (long fs)), (.cvtDS fs fd, fpToFmt .single .double env (word fs)),
        (.cvtDW fs fd, fpOfW .double env (word fs)), (.cvtDL fs fd, fpOfL .double env (long fs))]
        : List (Instr × FpResult)), FpAnswers p.1 s [fs, fd] p.2 double)

/-- Conversions to fixed point: the rounding direction of each instruction, RM for CVT, and FpFinish
(spec/46_fpu.md R394; spec/47_fpu_arith.md R424 to R431, R434, R436; the numbers are FloatResults, log 14). -/
def Obligations.FloatToFixed : Prop :=
  ∀ (s : State) (fs fd : Reg),
    let rm := s.fcr31.extractLsb' 0 2
    let a : Word := (readF32 s fs).setWidth 64
    let b : Word := cell s fs
    (∀ p ∈ ([(.roundWS fs fd, .single, a, 0), (.truncWS fs fd, .single, a, 1), (.ceilWS fs fd, .single, a, 2),
        (.floorWS fs fd, .single, a, 3), (.cvtWS fs fd, .single, a, rm), (.roundWD fs fd, .double, b, 0),
        (.truncWD fs fd, .double, b, 1), (.ceilWD fs fd, .double, b, 2), (.floorWD fs fd, .double, b, 3),
        (.cvtWD fs fd, .double, b, rm)] : List (Instr × Fmt × Word × BitVec 2)),
      FpAnswers p.1 s [fs, fd] (fpToW p.2.1 p.2.2.2 p.2.2.1) (fun v => OnlyF32 fd (v.setWidth 32))) ∧
    (∀ p ∈ ([(.roundLS fs fd, .single, a, 0), (.truncLS fs fd, .single, a, 1), (.ceilLS fs fd, .single, a, 2),
        (.floorLS fs fd, .single, a, 3), (.cvtLS fs fd, .single, a, rm), (.roundLD fs fd, .double, b, 0),
        (.truncLD fs fd, .double, b, 1), (.ceilLD fs fd, .double, b, 2), (.floorLD fs fd, .double, b, 3),
        (.cvtLD fs fd, .double, b, rm)] : List (Instr × Fmt × Word × BitVec 2)),
      FpAnswers p.1 s [fs, fd] (fpToL p.2.1 p.2.2.2 p.2.2.1) (fun v => OnlyCell fd v))

/-- What the numbers are, over the rationals and reals. A conversion to fixed point rounds the exact value in the direction
given, inexact when that changed it, and is Unimplemented Operation for every other operand and every result out of range.
A sum, difference, product, quotient, square root, conversion between formats and conversion from an integer is the exact
result rounded once by R396, for zero and normal operands; an exact zero, a division by zero, the root of a negative number
and infinite operands have the results the rules name. The first operand that is denormal or a quiet NaN gives
Unimplemented Operation, one that is a signalling NaN gives Invalid and the default quiet NaN. ABS and NEG change the sign
bit alone (spec/46_fpu.md R393; spec/47_fpu_arith.md R396, R414 to R420, R422, R423, R432, R433). That the processor
computes this is the reference definition (log 14); that the integer 0 becomes +0 in a double is presumed (log 41). -/
def Obligations.FloatResults : Prop :=
  (∀ (f : Fmt) (mode : BitVec 2) (a : Word),
    let finite := fpClass f a = .zero ∨ fpClass f a = .normal
    let x := fpReal f a
    let n := roundedTo mode x
    let inexact : BitVec 6 := if (n : ℚ) = x then 0 else 0b000001
    (¬ finite → (fpToW f mode a).cause = 0b100000 ∧ (fpToL f mode a).cause = 0b100000) ∧
    (finite → ¬ FitsWord n → (fpToW f mode a).cause = 0b100000) ∧
    (finite → FitsWord n →
      fpToW f mode a = { value := (BitVec.ofInt 32 n).setWidth 64, cause := inexact }) ∧
    (finite → 2 ^ 53 ≤ |x| → (fpToL f mode a).cause = 0b100000) ∧
    (finite → |x| < 2 ^ 53 → fpToL f mode a = { value := BitVec.ofInt 64 n, cause := inexact })) ∧
  (∀ (f dst : Fmt) (env : FpEnv) (a b : Word),
    let finite (v : Word) := fpClass f v = .zero ∨ fpClass f v = .normal
    let x : ℚ := fpReal f a
    let y : ℚ := fpReal f b
    let rounds (g : Fmt) (q : ℚ) (r : FpResult) := RoundsTo g env (q : ℝ) r
    let zero (g : Fmt) (negative : Bool) (r : FpResult) :=
      r.cause = 0 ∧ fpClass g r.value = .zero ∧ fpSign g r.value = negative
    let invalid (g : Fmt) (r : FpResult) := r = { value := quietNan g, cause := 0b010000 }
    let apart := xor (fpSign f a) (fpSign f b)
    finite a → finite b →
      (x + y ≠ 0 → rounds f (x + y) (fpAdd f env a b)) ∧
      (x + y = 0 → zero f (if x = 0 ∧ apart = false then fpSign f a else env.rm == 3) (fpAdd f env a b)) ∧
      (x - y ≠ 0 → rounds f (x - y) (fpSub f env a b)) ∧
      (x - y = 0 → zero f (if x = 0 ∧ apart = true then fpSign f a else env.rm == 3) (fpSub f env a b)) ∧
      (x * y ≠ 0 → rounds f (x * y) (fpMul f env a b)) ∧
      (x * y = 0 → zero f apart (fpMul f env a b)) ∧
      (x ≠ 0 → y ≠ 0 → rounds f (x / y) (fpDiv f env a b)) ∧
      (x = 0 → y ≠ 0 → zero f apart (fpDiv f env a b)) ∧
      (x ≠ 0 → y = 0 → (fpDiv f env a b).cause = 0b001000 ∧ fpClass f (fpDiv f env a b).value = .infinity ∧
        fpSign f (fpDiv f env a b).value = apart) ∧
      (x = 0 → y = 0 → invalid f (fpDiv f env a b)) ∧
      (0 < x → RoundsTo f env (Real.sqrt (x : ℝ)) (fpSqrt f env a)) ∧
      (x = 0 → zero f (fpSign f a) (fpSqrt f env a)) ∧
      (x < 0 → invalid f (fpSqrt f env a)) ∧
      (x ≠ 0 → rounds dst x (fpToFmt f dst env a)) ∧
      (x = 0 → zero dst (fpSign f a) (fpToFmt f dst env a))) ∧
  (∀ (f dst : Fmt) (env : FpEnv) (a b : Word),
    let nan := fun v => fpClass f v = .denormal ∨ fpClass f v = .qnan
    let number (v : Word) := fpClass f v = .zero ∨ fpClass f v = .normal ∨ fpClass f v = .infinity
    let checked (v : Word) (g : Fmt) (r : FpResult) : Prop :=
      (nan v → r.cause = 0b100000) ∧ (fpClass f v = .snan → r = { value := quietNan g, cause := 0b010000 })
    (∀ r ∈ ([fpAdd f env a b, fpSub f env a b, fpMul f env a b, fpDiv f env a b] : List FpResult),
      checked a f r ∧ (number a → checked b f r)) ∧
    (∀ r ∈ ([fpSqrt f env a, fpAbs f env a, fpNeg f env a] : List FpResult), checked a f r) ∧
    checked a dst (fpToFmt f dst env a) ∧
    (number a → ∀ p ∈ ([(fpAbs f env a, false), (fpNeg f env a, !fpSign f a)] : List (FpResult × Bool)),
      p.1.cause = 0 ∧ fpSign f p.1.value = p.2 ∧ fpExp f p.1.value = fpExp f a ∧ fpFrac f p.1.value = fpFrac f a)) ∧
  (∀ (f dst : Fmt) (env : FpEnv) (a b : Word),
    let finite (v : Word) := fpClass f v = .zero ∨ fpClass f v = .normal
    let infinite (v : Word) := fpClass f v = .infinity
    let infinity (g : Fmt) (negative : Bool) (r : FpResult) :=
      r.cause = 0 ∧ fpClass g r.value = .infinity ∧ fpSign g r.value = negative
    let invalid (r : FpResult) := r = { value := quietNan f, cause := 0b010000 }
    let p := fpSign f a
    let q := fpSign f b
    (infinite a → infinite b →
      (if p = q then infinity f p (fpAdd f env a b) else invalid (fpAdd f env a b)) ∧
      (if p = q then invalid (fpSub f env a b) else infinity f p (fpSub f env a b)) ∧
      infinity f (xor p q) (fpMul f env a b) ∧ invalid (fpDiv f env a b)) ∧
    (infinite a → finite b →
      infinity f p (fpAdd f env a b) ∧ infinity f p (fpSub f env a b) ∧ infinity f (xor p q) (fpDiv f env a b) ∧
      (if fpClass f b = .zero then invalid (fpMul f env a b) else infinity f (xor p q) (fpMul f env a b))) ∧
    (finite a → infinite b →
      infinity f q (fpAdd f env a b) ∧ infinity f (!q) (fpSub f env a b) ∧
      ((fpDiv f env a b).cause = 0 ∧ fpClass f (fpDiv f env a b).value = .zero ∧
        fpSign f (fpDiv f env a b).value = xor p q) ∧
      (if fpClass f a = .zero then invalid (fpMul f env a b) else infinity f (xor p q) (fpMul f env a b))) ∧
    (infinite a →
      (if p then invalid (fpSqrt f env a) else infinity f false (fpSqrt f env a)) ∧
      infinity dst p (fpToFmt f dst env a))) ∧
  (∀ (dst : Fmt) (env : FpEnv) (a : Word),
    let n : Int := (a.setWidth 32).toInt
    let m : Int := a.toInt
    (n ≠ 0 → RoundsTo dst env (n : ℝ) (fpOfW dst env a)) ∧
    (n = 0 → fpOfW dst env a = { value := 0, cause := 0 }) ∧
    (m ≠ 0 → -(2 ^ 55) ≤ m → m < 2 ^ 55 → RoundsTo dst env (m : ℝ) (fpOfL dst env a)) ∧
    (m = 0 → fpOfL dst env a = { value := 0, cause := 0 }) ∧
    (m < -(2 ^ 55) ∨ 2 ^ 55 ≤ m → (fpOfL dst env a).cause = 0b100000))

/-- The thirty-two compares run FpFinish, which writes FCR31.C (spec/47_fpu_arith.md R435; spec/46_fpu.md R394). -/
def Obligations.FloatCompares : Prop :=
  ∀ (s : State) (ft fs : Reg),
    let word (r : Reg) : Word := (readF32 s r).setWidth 64
    let done (v : Word) := OnlyCond (v == 1)
    (∀ p ∈ ([(.cFS ft fs, 0), (.cUnS ft fs, 1), (.cEqS ft fs, 2), (.cUeqS ft fs, 3), (.cOltS ft fs, 4),
        (.cUltS ft fs, 5), (.cOleS ft fs, 6), (.cUleS ft fs, 7), (.cSfS ft fs, 8), (.cNgleS ft fs, 9),
        (.cSeqS ft fs, 10), (.cNglS ft fs, 11), (.cLtS ft fs, 12), (.cNgeS ft fs, 13), (.cLeS ft fs, 14),
        (.cNgtS ft fs, 15)] : List (Instr × BitVec 4)),
      FpAnswers p.1 s [fs, ft] (fpCompare .single p.2 (word fs) (word ft)) done) ∧
    (∀ p ∈ ([(.cFD ft fs, 0), (.cUnD ft fs, 1), (.cEqD ft fs, 2), (.cUeqD ft fs, 3), (.cOltD ft fs, 4),
        (.cUltD ft fs, 5), (.cOleD ft fs, 6), (.cUleD ft fs, 7), (.cSfD ft fs, 8), (.cNgleD ft fs, 9),
        (.cSeqD ft fs, 10), (.cNglD ft fs, 11), (.cLtD ft fs, 12), (.cNgeD ft fs, 13), (.cLeD ft fs, 14),
        (.cNgtD ft fs, 15)] : List (Instr × BitVec 4)),
      FpAnswers p.1 s [fs, ft] (fpCompare .double p.2 (cell s fs) (cell s ft)) done)

/-- What a compare computes, over the extended reals: less, equal or unordered as the condition's bits ask, denormals by
value, both zeros equal; invalid for a signalling NaN, and for a quiet one when bit 3 of the condition is set
(spec/47_fpu_arith.md R435; spec/46_fpu.md R393). -/
def Obligations.CompareByValue : Prop :=
  ∀ (f : Fmt) (cond : BitVec 4) (a b : Word),
    let nan (v : Word) := fpClass f v = .snan ∨ fpClass f v = .qnan
    let r := fpCompare f cond a b
    (nan a ∨ nan b →
      (r.value = 1 ↔ cond.getLsbD 0 = true) ∧
      r.cause = (if fpClass f a = .snan ∨ fpClass f b = .snan ∨ cond.getLsbD 3 = true then 0b010000 else 0)) ∧
    (¬ (nan a ∨ nan b) →
      (r.value = 1 ↔ (cond.getLsbD 2 = true ∧ fpExtended f a < fpExtended f b) ∨
        (cond.getLsbD 1 = true ∧ fpExtended f a = fpExtended f b)) ∧ r.cause = 0)

/-! ### Exceptions, interrupts and the timer (spec/60_exceptions.md) -/

/-- The vectors (spec/60_exceptions.md R480, R482). -/
def Obligations.ExceptionVectors : Prop :=
  ∀ (e : Exc) (s : State),
    let bev := s.cp0.status.getLsbD 22
    let exl := s.cp0.status.getLsbD 1
    let refill := match e with | .tlbRefill _ _ _ => true | _ => false
    (takeException e s).pc =
      if exl = false ∧ refill = true then
        match e with
        | .tlbRefill _ true _ => if bev then 0xFFFFFFFFBFC00280 else 0xFFFFFFFF80000080
        | _ => if bev then 0xFFFFFFFFBFC00200 else 0xFFFFFFFF80000000
      else if bev then 0xFFFFFFFFBFC00380 else 0xFFFFFFFF80000180

/-- Interrupt service: lines 2 to 6 follow the pins, and an interrupt is entered exactly when IE is 1, EXL and ERL are 0
and an enabled line is pending; with TIMER_ON_IP7 false the one-shot condition counts as line 7 and is used up when it
is the line serviced (spec/60_exceptions.md R470, R475, R502). -/
def Obligations.InterruptService : Prop :=
  ∀ (onIp7 : Bool) (s : State),
    let line (n : Nat) : Bool := if 2 ≤ n ∧ n ≤ 6 then s.intPins.getLsbD (n - 2) else s.cp0.cause.ip.getLsbD n
    let u : State := { s with cp0 := { s.cp0 with cause := { s.cp0.cause with ip := BitVec.ofFnLE fun k : Fin 8 => line k } } }
    let pending (n : Nat) : Prop := n < 8 ∧ line n = true ∧ s.cp0.status.getLsbD (8 + n) = true
    let timer : Prop := onIp7 = false ∧ s.timerCond = true ∧ s.cp0.status.getLsbD 15 = true
    let enabled : Prop := s.cp0.status.getLsbD 0 = true ∧ s.cp0.status.getLsbD 1 = false ∧ s.cp0.status.getLsbD 2 = false
    let t := interruptService onIp7 s
    (¬ (enabled ∧ ((∃ n, pending n) ∨ timer)) → t = u) ∧
    (enabled → (∃ n, pending n) ∨ timer →
      Enters .interrupt u { t with timerCond := s.timerCond } ∧
      (t.timerCond = false ↔ s.timerCond = false ∨ (onIp7 = false ∧ ∀ n < 7, ¬ pending n)))

/-- The timer: a qualifying tick adds 1 to Count modulo 2^32, and the increment that reaches Compare raises line 7, or the
one-shot condition when the timer is not on that line; nothing else changes (spec/60_exceptions.md R500, R502). -/
def Obligations.TimerStep : Prop :=
  ∀ (s : State),
    let count := BitVec.ofNat 32 (s.cp0.count.toNat + 1)
    let ticked : State := { s with ticks := s.ticks + 1 }
    let counted : State := { ticked with cp0 := { s.cp0 with count := count } }
    (∀ onIp7, timerStep onIp7 false s = ticked) ∧
    (∀ onIp7, count ≠ s.cp0.compare → timerStep onIp7 true s = counted) ∧
    (count = s.cp0.compare →
      timerStep true true s = { counted with cp0 := { counted.cp0 with
        cause := { s.cp0.cause with ip := s.cp0.cause.ip ||| 0x80 } } } ∧
      timerStep false true s = { counted with timerCond := true })

/-- Status alone decides the mode, in the reserved one no instruction is fetched, and kernel mode is left by ERET and by
an MTC0 to Status alone (spec/60_exceptions.md R460, R462). -/
def Obligations.ModeDecoding : Prop :=
  (∀ st : Word32,
    let high := st.getLsbD 1 = true ∨ st.getLsbD 2 = true
    (high ∨ st.toNat / 8 % 4 = 0 → modeOf st = some .kernel) ∧
    (¬ high → st.toNat / 8 % 4 = 1 → modeOf st = some .supervisor) ∧
    (¬ high → st.toNat / 8 % 4 = 2 → modeOf st = some .user) ∧
    (¬ high → st.toNat / 8 % 4 = 3 → modeOf st = none)) ∧
  (∀ s : State, modeOf (beginTick s).cp0.status = none → step s = .refused .reservedMode) ∧
  (∀ (i : Instr) (s t : State), exec i s = .next t → modeOf s.cp0.status = some .kernel →
    modeOf t.cp0.status ≠ some .kernel → i = .eret ∨ ∃ rt, i = .mtc0 rt 12)

/-- A user program without coprocessor 0 changes no coprocessor 0 register but LLAddr and no TLB entry, except by the
entry of an exception, which goes to a vector in kernel mode (spec/60_exceptions.md R461, R462;
spec/45_cop0.md R365). -/
def Obligations.UserIsolation : Prop :=
  ∀ (i : Instr) (s t : State), exec i s = .next t → modeOf s.cp0.status = some .user →
    s.cp0.status.getLsbD 28 = false →
    t.tlb = s.tlb ∧ t.intPins = s.intPins ∧
    (({ t.cp0 with llAddr := s.cp0.llAddr } = s.cp0) ∨
      ∃ e, Enters e { s with fcr31 := t.fcr31 } t ∧ modeOf t.cp0.status = some .kernel)

/-- What writes HI and LO, LLbit and the TLB: the multiplies, divides, MTHI and MTLO; the load-linked pair and ERET;
TLBWI and TLBWR; nothing else (spec/10_state.md R34, R38; spec/20_memory.md R166). -/
def Obligations.StateWriters : Prop :=
  ∀ (i : Instr) (s t : State), exec i s = .next t →
    ((t.hi ≠ s.hi ∨ t.lo ≠ s.lo) → ∃ a b, i ∈ ([.mult a b, .multu a b, .dmult a b, .dmultu a b, .div a b, .divu a b,
      .ddiv a b, .ddivu a b, .mthi a, .mtlo a] : List Instr)) ∧
    (t.llbit ≠ s.llbit → (t.llbit = true ∧ ∃ b r o, i = .ll b r o ∨ i = .lld b r o) ∨ (t.llbit = false ∧ i = .eret)) ∧
    (t.tlb ≠ s.tlb → i = .tlbwi ∨ i = .tlbwr)

/-! ### Devices (spec/61_platform_devices.md) -/

/-- The register blocks of VI, PI, SI and SP: a plain slot takes the bits it has of a word stored to it, no other slot
changes, and a load reads them back; a load of a slot that starts transfers, or of one staged for them, reads what the
slot holds; reserved and read-only slots read 0 and
ignore stores; the status registers read 0 but for a bit of any value, and a store to one reaches nothing else;
VI_V_CURRENT and SP_IBIST read as any value and ignore stores (spec/61_platform_devices.md R531, R541, R545, R550, R555,
R561, R567; spec/20_memory.md R103). After a transfer R542 leaves the staged slots and the length any value; that such a
slot then holds one value, which every load reads until the next write, is the model's choice (log 27). -/
def Obligations.RegisterBlocks : Prop :=
  ∀ (s : State) (base rt rd : Reg) (offset : BitVec 16),
    let va := readGpr s base + BitVec.ofInt 64 offset.toInt
    let w := (readGpr s rt).setWidth 32
    let slotAt (first k : Nat) : PAddr := BitVec.ofNat 32 (first + 4 * k)
    (∀ row ∈ ([(.vi, 0x04400000, [(0, 0x0001FFFF), (1, 0x00FFFFFF), (2, 0x00000FFF), (3, 0x000003FF), (5, 0x3FFFFFFF),
          (6, 0x000003FF), (7, 0x001FFFFF), (8, 0x0FFFFFFF), (9, 0x03FF03FF), (10, 0x03FF03FF), (11, 0x03FFFFFF),
          (12, 0x0FFF0FFF), (13, 0x0FFF0FFF)]),
        (.pi, 0x04600000, [(0, 0x00FFFFFF), (1, 0xFFFFFFFF), (5, 0xFF), (6, 0xFF), (7, 0xF), (8, 0x3), (9, 0xFF),
          (10, 0xFF), (11, 0xF), (12, 0x3)]),
        (.si, 0x04800000, [(0, 0x00FFFFFF)]), (.sp, 0x04040000, [(0, 0x00001FFF), (1, 0x00FFFFFF)]),
        (.spPc, 0x04080000, [(0, 0x00000FFC)])] : List (Block × Nat × List (Nat × Word32))),
      ∀ slot ∈ row.2.2, dataAddress true 4 va s = .ok (slotAt row.2.1 slot.1) →
        dataAddress false 4 va s = .ok (slotAt row.2.1 slot.1) →
        ∃ t u, exec (.sw base rt offset) s = .next t ∧ OnlySlot row.1 slot.1 (w &&& slot.2) s t ∧
          exec (.lw base rd offset) t = .next u ∧ OnlyGpr rd ((w &&& slot.2).signExtend 64) t u) ∧
    (∀ row ∈ ([(.vi, 0x04400000, [0, 1, 2, 3, 5, 6, 7, 8, 9, 10, 11, 12, 13]),
        (.pi, 0x04600000, [0, 1, 2, 3, 5, 6, 7, 8, 9, 10, 11, 12]), (.si, 0x04800000, [0, 1, 4]),
        (.sp, 0x04040000, [0, 1, 2, 3]), (.spPc, 0x04080000, [0])] : List (Block × Nat × List Nat)),
      ∀ k ∈ row.2.2, dataAddress false 4 va s = .ok (slotAt row.2.1 k) →
        Answers (.lw base rd offset) s (OnlyGpr rd ((writeSide row.1 k s).signExtend 64) s)) ∧
    (∀ p ∈ ([0x04800008, 0x0480000C, 0x04800014, 0x04040014, 0x04040018] : List PAddr), Inv s →
      (dataAddress true 4 va s = .ok p → Answers (.sw base rt offset) s (OnlyControl (nextPc s) none s)) ∧
      (dataAddress false 4 va s = .ok p → Answers (.lw base rd offset) s (OnlyGpr rd 0 s))) ∧
    (∀ row ∈ ([(.pi, 4, 0x04600010, 0x00000008), (.si, 6, 0x04800018, 0x00001000)]
        : List (Block × Nat × PAddr × Word32)),
      (dataAddress true 4 va s = .ok row.2.2.1 →
        Answers (.sw base rt offset) s (fun t => ∃ v, OnlySlot row.1 row.2.1 v s t)) ∧
      (dataAddress false 4 va s = .ok row.2.2.1 → Answers (.lw base rd offset) s (fun u => ∃ x : Word32,
        x &&& ~~~row.2.2.2 = 0 ∧ OnlyGpr rd (x.signExtend 64) { s with draws := u.draws } u))) ∧
    (∀ p ∈ ([0x04400010, 0x04080004] : List PAddr),
      (Inv s → dataAddress true 4 va s = .ok p → Answers (.sw base rt offset) s (OnlyControl (nextPc s) none s)) ∧
      (dataAddress false 4 va s = .ok p → Answers (.lw base rd offset) s (fun u => ∃ x : Word32,
        OnlyGpr rd (x.signExtend 64) { s with draws := u.draws } u)))

/-- The signal processor's status, semaphore and transfers: each 1 bit of a word stored to SP_STATUS is a command, the clear
and the set of one flag together leave it; a load reads the flags; a load of SP_SEMAPHORE reads it and sets it, a store
clears it; a store to SP_RD_LEN or SP_WR_LEN copies length + 1 bytes from RDRAM to SP memory or back and changes nothing
but the staged registers beside them; one that leaves populated RDRAM stops there with what it has copied, and a transfer
hardware would not copy so is refused (spec/61_platform_devices.md R540, R542, R543, R562 to R566). -/
def Obligations.SignalProcessorRegisters : Prop :=
  ∀ (s : State) (base rt : Reg) (offset : BitVec 16),
    let va := readGpr s base + BitVec.ofInt 64 offset.toInt
    let w := (readGpr s rt).setWidth 32
    let f := s.spStatus
    let after (clear set : Bool) (old : Bool) : Bool := if clear = set then old else set
    (dataAddress true 4 va s = .ok 0x04040010 → Answers (.sw base rt offset) s (fun t =>
      t.spStatus.halt = after (w.getLsbD 0) (w.getLsbD 1) f.halt ∧
      t.spStatus.broke = (f.broke && !w.getLsbD 2) ∧
      t.spStatus.sstep = after (w.getLsbD 5) (w.getLsbD 6) f.sstep ∧
      t.spStatus.intrBreak = after (w.getLsbD 7) (w.getLsbD 8) f.intrBreak ∧
      (∀ k < 8, t.spStatus.sig.getLsbD k = after (w.getLsbD (9 + 2 * k)) (w.getLsbD (10 + 2 * k)) (f.sig.getLsbD k)) ∧
      (∀ k, k ≠ 4 → writeSide .sp k t = writeSide .sp k s) ∧
      OnlyControl (nextPc s) none { s with spStatus := t.spStatus, spRegs := t.spRegs } t)) ∧
    (dataAddress false 4 va s = .ok 0x04040010 → Answers (.lw base rt offset) s (OnlyGpr rt
      (BitVec.ofNat 64 (f.halt.toNat + f.broke.toNat * 2 + f.sstep.toNat * 2 ^ 5 + f.intrBreak.toNat * 2 ^ 6 +
        f.sig.toNat * 2 ^ 7)) s)) ∧
    (dataAddress false 4 va s = .ok 0x0404001C → Answers (.lw base rt offset) s (OnlyGpr rt
      (if s.semaphore then 1 else 0) { s with semaphore := true })) ∧
    (dataAddress true 4 va s = .ok 0x0404001C → Answers (.sw base rt offset) s (fun t =>
      (∀ k, k ≠ 7 → writeSide .sp k t = writeSide .sp k s) ∧
      OnlyControl (nextPc s) none { s with semaphore := false, spRegs := t.spRegs } t)) ∧
    (let count := w.toNat % 2 ^ 12 + 1
     let off := s.spRegs[0].toNat % 2 ^ 12
     let sp := (if s.spRegs[0].getLsbD 12 then 0x04001000 else 0x04000000) + off
     let ram := s.spRegs[1].toNat % 2 ^ 24
     let done := s.rdramSize - ram
     let aligned := w.toNat < 2 ^ 12 ∧ count % 8 = 0 ∧ off % 8 = 0 ∧ ram % 8 = 0 ∧ off + count ≤ 0x1000
     (dataAddress true 4 va s = .ok 0x04040008 →
       (aligned → ram + count ≤ s.rdramSize → Answers (.sw base rt offset) s (fun t =>
         OnlyTransfer .sp [0, 1, 2] sp count s t ∧ ∀ k < count, memByte (sp + k) t = memByte (ram + k) s)) ∧
       (aligned → s.rdramSize < ram + count →
         ∃ t, exec (.sw base rt offset) s = .fault (.dmaBusFault (BitVec.ofNat 32 (ram + done)) done t) ∧
           PartialTransfer .sp 2 sp done s t ∧ ∀ k < done, memByte (sp + k) t = memByte (ram + k) s) ∧
       (¬ aligned → exec (.sw base rt offset) s = .refused .dmaUnaligned)) ∧
     (dataAddress true 4 va s = .ok 0x0404000C →
       (aligned → ram + count ≤ s.rdramSize → Answers (.sw base rt offset) s (fun t =>
         OnlyTransfer .sp [0, 1, 3] ram count s t ∧ ∀ k < count, memByte (ram + k) t = memByte (sp + k) s)) ∧
       (aligned → s.rdramSize < ram + count →
         ∃ t, exec (.sw base rt offset) s = .fault (.dmaBusFault (BitVec.ofNat 32 (ram + done)) done t) ∧
           PartialTransfer .sp 3 ram done s t ∧ ∀ k < done, memByte (ram + k) t = memByte (sp + k) s) ∧
       (¬ aligned → exec (.sw base rt offset) s = .refused .dmaUnaligned)))

/-- A store to PI_WR_LEN copies length + 1 bytes of an image to RDRAM before the instruction retires, a store to PI_RD_LEN
copies them from RDRAM to SP memory, or to an image, which stores nothing; no other byte changes, and beside the bytes only
the staged pair and the length. A copy that reaches a byte no device claims stops with its address and the number of bytes
copied: those hold the new data and the rest is unchanged. A transfer that hardware would not copy byte for byte is refused
(spec/61_platform_devices.md R533, R540, R542, R543, R551; spec/20_memory.md R152). -/
def Obligations.CartridgeTransfer : Prop :=
  ∀ (s : State) (base rt : Reg) (offset : BitVec 16),
    let va := readGpr s base + BitVec.ofInt 64 offset.toInt
    let count := (readGpr s rt).toNat % 2 ^ 24 + 1
    let ram := s.piRegs[0].toNat % 2 ^ 24
    let cart := s.piRegs[1].toNat
    let done := s.rdramSize - ram
    let aligned := ram % 8 = 0 ∧ cart % 2 = 0 ∧ count % 2 = 0
    let moved (n : Nat) (t : State) : Prop :=
      ∀ k < n, Memory.lookup (cart + k) s.mem ≠ none → memByte (ram + k) t = memByte (cart + k) s
    (dataAddress true 4 va s = .ok 0x0460000C →
      (aligned → 0x10000000 ≤ cart → cart + count ≤ 0x1FC007C0 →
        (ram + count ≤ s.rdramSize → Answers (.sw base rt offset) s (fun t =>
          OnlyTransfer .pi [0, 1, 3] ram count s t ∧ moved count t)) ∧
        (s.rdramSize < ram + count →
          ∃ t, exec (.sw base rt offset) s = .fault (.dmaBusFault (BitVec.ofNat 32 (ram + done)) done t) ∧
            PartialTransfer .pi 3 ram done s t ∧ moved done t)) ∧
      (¬ aligned → exec (.sw base rt offset) s = .refused .dmaUnaligned)) ∧
    (dataAddress true 4 va s = .ok 0x04600008 →
      (aligned → ram + count ≤ s.rdramSize →
        (0x04000000 ≤ cart → cart + count ≤ 0x04002000 → Answers (.sw base rt offset) s (fun t =>
          OnlyTransfer .pi [0, 1, 2] cart count s t ∧ ∀ k < count, memByte (cart + k) t = memByte (ram + k) s)) ∧
        (0x10000000 ≤ cart → cart + count ≤ 0x1FC007C0 →
          Answers (.sw base rt offset) s (OnlyTransfer .pi [0, 1, 2] cart 0 s))) ∧
      (aligned → s.rdramSize < ram + count →
        (0x04000000 ≤ cart → cart + count ≤ 0x04002000 →
          ∃ t, exec (.sw base rt offset) s = .fault (.dmaBusFault (BitVec.ofNat 32 (ram + done)) done t) ∧
            PartialTransfer .pi 2 cart done s t ∧ ∀ k < done, memByte (cart + k) t = memByte (ram + k) s) ∧
        (0x10000000 ≤ cart → cart + count ≤ 0x1FC007C0 →
          ∃ t, exec (.sw base rt offset) s = .fault (.dmaBusFault (BitVec.ofNat 32 (ram + done)) done t) ∧
            PartialTransfer .pi 2 cart 0 s t)) ∧
      (¬ aligned → exec (.sw base rt offset) s = .refused .dmaUnaligned))

/-- The PIF serves its RAM when the command byte is written: the identification of controller 0, its state with the latch
emptied, RAM clear; a command no source defines is refused. The serial interface copies the 64 bytes of PIF RAM to RDRAM,
or 64 bytes of RDRAM to PIF RAM, which the PIF then serves; nothing else changes but its staged registers; a copy that
leaves populated RDRAM stops there with what it has copied, and the PIF serves nothing; an RDRAM address that is no multiple
of 8 is refused (spec/61_platform_devices.md R540, R542, R543, R556, R576, R580 to R584, R590, R595). -/
def Obligations.PifCommands : Prop :=
  ∀ (s : State) (base rt : Reg) (offset : BitVec 16),
    let va := readGpr s base + BitVec.ofInt 64 offset.toInt
    let c : Byte := (readGpr s rt).setWidth 8
    let ramByte (k : Nat) (u : State) : Byte := memByte (0x1FC007C0 + k) u
    let same (u : State) (a : Nat) : Prop := memByte a u = memByte a s
    (dataAddress true 1 va s = .ok 0x1FC007FF →
      (c &&& 0xB6 ≠ 0 → exec (.sb base rt offset) s = .refused .pifCommand) ∧
      (c &&& 0xB6 = 0 → c &&& 0x40 ≠ 0 → Answers (.sb base rt offset) s
        (OnlyMemory 0x1FC007C0 (List.replicate 64 0) s)) ∧
      (c &&& 0xB6 = 0 → c &&& 0x41 = 0 → Answers (.sb base rt offset) s (OnlyMemory 0x1FC007FF [c] s)) ∧
      (c = 1 → ramByte 0 s = 1 → ramByte 1 s = 3 → ramByte 2 s = 0xFF → ramByte 6 s = 0xFE →
        Answers (.sb base rt offset) s (fun t =>
          ramByte 3 t = 0x05 ∧ ramByte 4 t = 0x00 ∧ ramByte 5 t = 0x02 ∧ ramByte 63 t = 1 ∧
          (∀ a, a ≠ 0x1FC007C3 → a ≠ 0x1FC007C4 → a ≠ 0x1FC007C5 → a ≠ 0x1FC007FF → same t a) ∧ t.latch = s.latch)) ∧
      (c = 1 → ramByte 0 s = 1 → ramByte 1 s = 4 → ramByte 2 s = 0x01 → ramByte 7 s = 0xFE →
        Answers (.sb base rt offset) s (fun t =>
          ramByte 3 t = s.latch[0].buttons.extractLsb' 8 8 ∧ ramByte 4 t = s.latch[0].buttons.extractLsb' 0 8 ∧
          ramByte 5 t = s.latch[0].x ∧ ramByte 6 t = s.latch[0].y ∧ ramByte 63 t = 1 ∧
          (∀ a, a ≠ 0x1FC007C3 → a ≠ 0x1FC007C4 → a ≠ 0x1FC007C5 → a ≠ 0x1FC007C6 → a ≠ 0x1FC007FF → same t a) ∧
          t.latch[0] = { buttons := 0, x := 0, y := 0 } ∧ ∀ n : Fin 4, n ≠ 0 → t.latch[n] = s.latch[n]))) ∧
    (let ram := s.siRegs[0].toNat % 2 ^ 24
     let done := s.rdramSize - ram
     let src (k : Nat) : Byte := memByte (ram + k) s
     let d := src 63
     let toPif (P : State → Prop) : Prop :=
       Answers (.sw base rt offset) s (fun t => OnlyTransfer .si [0, 4] 0x1FC007C0 64 s t ∧ P t)
     (dataAddress true 4 va s = .ok 0x04800010 →
       (ram % 8 ≠ 0 → exec (.sw base rt offset) s = .refused .dmaUnaligned) ∧
       (ram % 8 = 0 → ram + 64 ≤ s.rdramSize →
         (d &&& 0xB6 ≠ 0 → exec (.sw base rt offset) s = .refused .pifCommand) ∧
         (d &&& 0xB6 = 0 → d &&& 0x40 ≠ 0 → toPif (fun t => ∀ k < 64, ramByte k t = 0)) ∧
         (d &&& 0xB6 = 0 → d &&& 0x41 = 0 → toPif (fun t => ∀ k < 64, ramByte k t = src k)) ∧
         (d = 1 → src 0 = 1 → src 1 = 3 → src 2 = 0xFF → src 6 = 0xFE → toPif (fun t =>
           ramByte 3 t = 0x05 ∧ ramByte 4 t = 0x00 ∧ ramByte 5 t = 0x02 ∧
           ∀ k < 64, k ∉ [3, 4, 5] → ramByte k t = src k))) ∧
       (ram % 8 = 0 → s.rdramSize < ram + 64 →
         ∃ t, exec (.sw base rt offset) s = .fault (.dmaBusFault (BitVec.ofNat 32 (ram + done)) done t) ∧
           PartialTransfer .si 4 0x1FC007C0 done s t ∧ ∀ k < done, ramByte k t = src k)) ∧
     (dataAddress true 4 va s = .ok 0x04800004 →
       (ram % 8 ≠ 0 → exec (.sw base rt offset) s = .refused .dmaUnaligned) ∧
       (ram % 8 = 0 → ram + 64 ≤ s.rdramSize → Answers (.sw base rt offset) s (fun t =>
         OnlyTransfer .si [0, 1] ram 64 s t ∧ ∀ k < 64, memByte (ram + k) t = ramByte k s)) ∧
       (ram % 8 = 0 → s.rdramSize < ram + 64 →
         ∃ t, exec (.sw base rt offset) s = .fault (.dmaBusFault (BitVec.ofNat 32 (ram + done)) done t) ∧
           PartialTransfer .si 1 ram done s t ∧ ∀ k < done, memByte (ram + k) t = ramByte k s)))

/-! ### Reset (spec/70_reset_and_hazards.md) and the invariant -/

/-- What a cold reset leaves, where the spec gives a value (spec/10_state.md R75; spec/61_platform_devices.md R535;
spec/70_reset_and_hazards.md R620). -/
def Obligations.ResetState : Prop :=
  let s := State.reset
  s.pc = 0xFFFFFFFFBFC00000 ∧ s.delay = none ∧ readGpr s 0 = 0 ∧
  s.cp0.status.getLsbD 2 = true ∧ s.cp0.status.getLsbD 22 = true ∧ s.cp0.status.getLsbD 21 = false ∧
  s.cp0.status.getLsbD 20 = false ∧ s.cp0.status.getLsbD 27 = false ∧
  s.cp0.random = 31 ∧ s.cp0.wired = 0 ∧ s.cp0.config &&& 0x8FFFFFF0 = 0x0006E460 ∧ s.timerCond = false ∧
  modeOf s.cp0.status = some .kernel ∧
  readSide .sp 4 s = 1 ∧ readSide .sp 7 s = 0 ∧ (∀ n : Fin 4, s.latch[n] = { buttons := 0, x := 0, y := 0 }) ∧
  fetchAddress s.pc s = .ok 0x1FC00000

/-- A soft reset and an NMI, between ticks, save the restart address in ErrorEPC, set ERL, BEV and SR, clear TS, go to the
reset vector and halt the signal processor; everything else but the register blocks keeps its value (that the controller
latches do is log 18). A cold reset sets what its rule fixes and keeps the images (log 17). A controller push adds the
buttons to its latch and sets both axes; the running signal processor may change its memories, populated RDRAM, its PC,
flags, semaphore and DMA registers, and nothing while it is halted; driving the pins sets lines 2 to 6; a move changes
nothing else; a move that asserts a reset input acts as the input does (spec/00_scope.md R11; spec/60_exceptions.md R470,
R477; spec/61_platform_devices.md R568, R590; spec/70_reset_and_hazards.md R620, R622, R625). -/
def Obligations.ResetEvents : Prop :=
  (∀ s : State, s.inputs = [] → s.coldResetPin = false → s.softResetPin = true ∨ s.nmiPin = true →
    let t := beginTick s
    t.cp0 = { s.cp0 with
      errorEpc := if s.delay.isSome then s.pc - 4 else s.pc
      status := (s.cp0.status ||| 0x00500004) &&& 0xFFDFFFFF } ∧
    t.pc = 0xFFFFFFFFBFC00000 ∧ t.delay = none ∧ t.semaphore = false ∧
    t.spStatus = { halt := true, broke := false, sstep := false, intrBreak := false, sig := 0 } ∧
    { t with
      cp0 := s.cp0, pc := s.pc, delay := s.delay, semaphore := s.semaphore, spStatus := s.spStatus
      viRegs := s.viRegs, piRegs := s.piRegs, siRegs := s.siRegs, spRegs := s.spRegs, spPcRegs := s.spPcRegs
      draws := s.draws, softResetPin := s.softResetPin, nmiPin := s.nmiPin } = s) ∧
  (∀ s : State, s.inputs = [] → s.coldResetPin = true → s.mem.wf = true →
    let t := beginTick s
    t.pc = 0xFFFFFFFFBFC00000 ∧ t.delay = none ∧ readGpr t 0 = 0 ∧ t.cp0.random = 31 ∧ t.cp0.wired = 0 ∧
    t.cp0.status &&& 0x08700004 = 0x00400004 ∧ t.cp0.config = Config.configReset ∧ t.timerCond = false ∧
    t.semaphore = false ∧ t.spStatus = { halt := true, broke := false, sstep := false, intrBreak := false, sig := 0 } ∧
    (∀ n : Fin 4, t.latch[n] = { buttons := 0, x := 0, y := 0 }) ∧
    (∀ a, 0x10000000 ≤ a → a < 0x1FC007C0 → Memory.lookup a t.mem = Memory.lookup a s.mem ∧ memByte a t = memByte a s)) ∧
  (∀ (s : State) (m : EnvMove) (rest : List (List EnvMove)), s.inputs = [m] :: rest →
    s.coldResetPin = false → s.softResetPin = false → s.nmiPin = false →
    let u : State := { s with inputs := rest }
    let t := beginTick s
    let onlySlot (blk : Block) (k : Nat) (v : Word32) : Prop :=
      writeSide blk k t = v ∧ (∀ b j, ¬ (b = blk ∧ j = k) → writeSide b j t = writeSide b j s) ∧
      { t with spRegs := s.spRegs, spPcRegs := s.spPcRegs } = u
    let quiet : State := { u with inputs := [] }
    (∀ level, m = .pins level →
      t = { u with intPins := level, cp0 := { u.cp0 with cause := { u.cp0.cause with ip := t.cp0.cause.ip } } } ∧
      ∀ n < 8, t.cp0.cause.ip.getLsbD n =
        if 2 ≤ n ∧ n ≤ 6 then level.getLsbD (n - 2) else s.cp0.cause.ip.getLsbD n) ∧
    (m = .coldReset → t = { beginTick { quiet with coldResetPin := true } with inputs := rest }) ∧
    (m = .softReset → t = { beginTick { quiet with softResetPin := true } with inputs := rest }) ∧
    (m = .nmi → t = { beginTick { quiet with nmiPin := true } with inputs := rest }) ∧
    (∀ slot buttons up down left right, m = .push slot buttons up down left right →
      let old := s.latch[slot.toNat]'(slot.isLt)
      t.latch[slot.toNat]'(slot.isLt) =
        { buttons := old.buttons ||| buttons
          x := BitVec.ofInt 8 (50 * ((right.toNat : Int) - left.toNat))
          y := BitVec.ofInt 8 (50 * ((up.toNat : Int) - down.toNat)) } ∧
      (∀ n : Fin 4, n.val ≠ slot.toNat → t.latch[n] = s.latch[n]) ∧ { t with latch := s.latch } = u) ∧
    (∀ f, m = .spFlags f → t = if s.spStatus.halt then u else { u with spStatus := f }) ∧
    (∀ b, m = .spSemaphore b → t = if s.spStatus.halt then u else { u with semaphore := b }) ∧
    (∀ v, m = .spPc v → if s.spStatus.halt then t = u else onlySlot .spPc 0 (v &&& 0x00000FFC)) ∧
    (∀ k v, m = .spDma k v → if s.spStatus.halt then t = u else
      onlySlot .sp k.toNat (v &&& if k = 0 then 0x00001FFF else if k = 1 then 0x00FFFFFF else 0xFFFFFFFF)) ∧
    (∀ p b, m = .spByte p b →
      let own := (0x04000000 ≤ p.toNat ∧ p.toNat < 0x04002000) ∨ (p.toNat < s.rdramSize ∧ p.toNat < 0x03F00000)
      (s.spStatus.halt = false → own →
        memByte p.toNat t = b ∧ (∀ a, a ≠ p.toNat → memByte a t = memByte a s) ∧ { t with mem := s.mem } = u) ∧
      (s.spStatus.halt = true ∨ ¬ own → t = u)))

/-- The invariant holds right after reset (spec/10_state.md section 6; log 1 to log 5 name the reset values). -/
def Obligations.ResetInv : Prop := Inv State.reset

/-- Every step keeps the invariant: canonical memory, x[0], the reserved bits of Status, FCR31, Config, WatchLo and TagLo,
Random between Wired and 31, the interrupt lines that follow the pins, the masks of the device registers. -/
def Obligations.StepKeepsInv : Prop :=
  ∀ s t : State, Inv s → step s = .next t → Inv t

/-- The cartridge image and the boot ROM never change: not by a store, a DMA, the PIF, the environment or a reset
(spec/70_reset_and_hazards.md R625; spec/20_memory.md R152). -/
def Obligations.ImagesNeverChange : Prop :=
  ∀ (s t : State) (a : Nat), s.mem.wf = true → step s = .next t → 0x10000000 ≤ a → a < 0x1FC007C0 →
    Memory.lookup a t.mem = Memory.lookup a s.mem ∧ memByte a t = memByte a s

end
end

