-- ==== Sys2Proof/Laws/Memory.lean ====
section
/-! SUPPORT. The laws of memory: read after write, and that every operation keeps the canonical form. -/

namespace Sys2Proof.Machine

theorem lookup_write_same (a : Nat) (b : Byte) (m : Memory) : Memory.lookup a (Memory.write a b m) = some b := by
  induction m with
  | nil => simp [Memory.write, Memory.lookup]
  | cons c rest ih =>
    obtain ⟨k, d⟩ := c
    unfold Memory.write
    split
    · simp [Memory.lookup]
    · split
      · simp [Memory.lookup]
      · rename_i h1 h2
        have : k ≠ a := fun e => h2 e.symm
        simp [Memory.lookup, this, h1, ih]

theorem lookup_write_other (a c : Nat) (b : Byte) (m : Memory) (h : c ≠ a) :
    Memory.lookup c (Memory.write a b m) = Memory.lookup c m := by
  induction m with
  | nil => simp [Memory.write, Memory.lookup, h.symm]
  | cons x rest ih =>
    obtain ⟨k, d⟩ := x
    unfold Memory.write
    split
    · rename_i h1
      simp only [Memory.lookup, h.symm, if_false]
      by_cases hc : c < a
      · have : k ≠ c := by omega
        have : c < k := by omega
        simp [*]
      · simp [hc]
    · split
      · rename_i h1 h2
        subst h2
        simp [Memory.lookup, h.symm]
      · simp [Memory.lookup, ih]

/-- Reading a byte after writing one. -/
theorem memByte_setMemByte (a c : Nat) (b : Byte) (s : State) :
    memByte c (setMemByte a b s) = if c = a then b else memByte c s := by
  by_cases h : c = a
  · subst h; simp [memByte, setMemByte, lookup_write_same]
  · simp [memByte, setMemByte, lookup_write_other, h]

/-! ### The canonical form -/

theorem risingFrom_weaken (b : Nat) (m : Memory) (h : risingFrom (some b) m = true) : risingFrom none m = true := by
  cases m with
  | nil => rfl
  | cons c rest => obtain ⟨k, d⟩ := c; simp_all [risingFrom]

theorem risingFrom_lower (b c : Nat) (m : Memory) (hb : c ≤ b) (h : risingFrom (some b) m = true) :
    risingFrom (some c) m = true := by
  cases m with
  | nil => rfl
  | cons x rest => obtain ⟨k, d⟩ := x; simp_all [risingFrom]; omega

theorem risingFrom_write (a : Nat) (b : Byte) (bound : Option Nat) (m : Memory)
    (hb : ∀ k, bound = some k → k < a) (h : risingFrom bound m = true) :
    risingFrom bound (Memory.write a b m) = true := by
  induction m generalizing bound with
  | nil => cases bound <;> simp_all [Memory.write, risingFrom]
  | cons c rest ih =>
    obtain ⟨k, d⟩ := c
    unfold Memory.write
    have hrest : risingFrom (some k) rest = true := by cases bound <;> simp_all [risingFrom]
    split
    · cases bound <;> simp_all [risingFrom]
    · split
      · cases bound <;> simp_all [risingFrom]
      · have := ih (some k) (by intro j hj; cases hj; omega) hrest
        cases bound <;> simp_all [risingFrom]

/-- A write keeps the canonical form. -/
theorem wf_write (a : Nat) (b : Byte) (m : Memory) (h : m.wf = true) : (Memory.write a b m).wf = true :=
  risingFrom_write a b none m (by simp) h

theorem risingFrom_filter (p : Host.Cell → Bool) (bound : Option Nat) (m : Memory) (h : risingFrom bound m = true) :
    risingFrom bound (m.filter p) = true := by
  induction m generalizing bound with
  | nil => simpa using h
  | cons c rest ih =>
    obtain ⟨k, d⟩ := c
    have hrest : risingFrom (some k) rest = true := by cases bound <;> simp_all [risingFrom]
    rw [List.filter_cons]
    split
    · cases bound <;> simp_all [risingFrom]
    · cases bound with
      | none => exact ih none (risingFrom_weaken k rest hrest)
      | some b => exact ih (some b) (risingFrom_lower k b rest (by simp [risingFrom] at h; omega) hrest)

/-- Forgetting a range keeps the canonical form. -/
theorem wf_forget (first last : Nat) (m : Memory) (h : m.wf = true) : (Memory.forget first last m).wf = true :=
  risingFrom_filter _ none m h

/-! ### Runs of bytes -/

/-- Writing bytes changes memory only. -/
theorem setMemBytes_eq (a : Nat) (bytes : List Byte) (s : State) :
    setMemBytes a bytes s = { s with mem := (setMemBytes a bytes s).mem } := by
  induction bytes generalizing a s with
  | nil => rfl
  | cons b rest ih => rw [setMemBytes, ih]; rfl

theorem setMemBytes_epoch (a : Nat) (bytes : List Byte) (s : State) : (setMemBytes a bytes s).epoch = s.epoch := by
  rw [setMemBytes_eq]

/-- Writing bytes keeps the canonical form. -/
theorem wf_setMemBytes (a : Nat) (bytes : List Byte) (s : State) (h : s.mem.wf = true) :
    (setMemBytes a bytes s).mem.wf = true := by
  induction bytes generalizing a s with
  | nil => exact h
  | cons b rest ih => exact ih _ _ (wf_write a b s.mem h)

/-- An address outside the bytes written reads as before. -/
theorem memByte_setMemBytes_other (a c : Nat) (bytes : List Byte) (s : State) (h : c < a ∨ a + bytes.length ≤ c) :
    memByte c (setMemBytes a bytes s) = memByte c s := by
  induction bytes generalizing a s with
  | nil => rfl
  | cons b rest ih =>
    rw [setMemBytes, ih _ _ (by simp at h; omega), memByte_setMemByte, if_neg (by simp at h; omega)]

/-- Byte k of the bytes written reads back. -/
theorem memByte_setMemBytes_same (a : Nat) (bytes : List Byte) (s : State) (k : Nat) (h : k < bytes.length) :
    memByte (a + k) (setMemBytes a bytes s) = bytes[k] := by
  induction bytes generalizing a s k with
  | nil => simp at h
  | cons b rest ih =>
    rw [setMemBytes]
    cases k with
    | zero => rw [memByte_setMemBytes_other _ _ _ _ (by omega), memByte_setMemByte]; simp
    | succ k =>
      have := ih (a + 1) (setMemByte a b s) k (by simpa using h)
      rw [show a + (k + 1) = a + 1 + k by omega, this]; rfl

end Sys2Proof.Machine
end

