-- ==== Sys2Proof/Laws/State.lean ====
section
/-! SUPPORT. One lemma per field of State for each update the meanings share: what the field is after it. -/

namespace Sys2Proof.Machine

/-! ### spendDraws -/

@[simp] theorem spendDraws_gpr (n : Nat) (s : State) : (spendDraws n s).gpr = s.gpr := rfl
@[simp] theorem spendDraws_hi (n : Nat) (s : State) : (spendDraws n s).hi = s.hi := rfl
@[simp] theorem spendDraws_lo (n : Nat) (s : State) : (spendDraws n s).lo = s.lo := rfl
@[simp] theorem spendDraws_pc (n : Nat) (s : State) : (spendDraws n s).pc = s.pc := rfl
@[simp] theorem spendDraws_delay (n : Nat) (s : State) : (spendDraws n s).delay = s.delay := rfl
@[simp] theorem spendDraws_fgr (n : Nat) (s : State) : (spendDraws n s).fgr = s.fgr := rfl
@[simp] theorem spendDraws_fgrLowFr (n : Nat) (s : State) : (spendDraws n s).fgrLowFr = s.fgrLowFr := rfl
@[simp] theorem spendDraws_fgrHighFr (n : Nat) (s : State) : (spendDraws n s).fgrHighFr = s.fgrHighFr := rfl
@[simp] theorem spendDraws_fcr0 (n : Nat) (s : State) : (spendDraws n s).fcr0 = s.fcr0 := rfl
@[simp] theorem spendDraws_fcr31 (n : Nat) (s : State) : (spendDraws n s).fcr31 = s.fcr31 := rfl
@[simp] theorem spendDraws_llbit (n : Nat) (s : State) : (spendDraws n s).llbit = s.llbit := rfl
@[simp] theorem spendDraws_cp0 (n : Nat) (s : State) : (spendDraws n s).cp0 = s.cp0 := rfl
@[simp] theorem spendDraws_tlb (n : Nat) (s : State) : (spendDraws n s).tlb = s.tlb := rfl
@[simp] theorem spendDraws_timerCond (n : Nat) (s : State) : (spendDraws n s).timerCond = s.timerCond := rfl
@[simp] theorem spendDraws_intPins (n : Nat) (s : State) : (spendDraws n s).intPins = s.intPins := rfl
@[simp] theorem spendDraws_coldResetPin (n : Nat) (s : State) : (spendDraws n s).coldResetPin = s.coldResetPin := rfl
@[simp] theorem spendDraws_softResetPin (n : Nat) (s : State) : (spendDraws n s).softResetPin = s.softResetPin := rfl
@[simp] theorem spendDraws_nmiPin (n : Nat) (s : State) : (spendDraws n s).nmiPin = s.nmiPin := rfl
@[simp] theorem spendDraws_mem (n : Nat) (s : State) : (spendDraws n s).mem = s.mem := rfl
@[simp] theorem spendDraws_rdramSize (n : Nat) (s : State) : (spendDraws n s).rdramSize = s.rdramSize := rfl
@[simp] theorem spendDraws_viRegs (n : Nat) (s : State) : (spendDraws n s).viRegs = s.viRegs := rfl
@[simp] theorem spendDraws_piRegs (n : Nat) (s : State) : (spendDraws n s).piRegs = s.piRegs := rfl
@[simp] theorem spendDraws_siRegs (n : Nat) (s : State) : (spendDraws n s).siRegs = s.siRegs := rfl
@[simp] theorem spendDraws_spRegs (n : Nat) (s : State) : (spendDraws n s).spRegs = s.spRegs := rfl
@[simp] theorem spendDraws_spPcRegs (n : Nat) (s : State) : (spendDraws n s).spPcRegs = s.spPcRegs := rfl
@[simp] theorem spendDraws_spStatus (n : Nat) (s : State) : (spendDraws n s).spStatus = s.spStatus := rfl
@[simp] theorem spendDraws_semaphore (n : Nat) (s : State) : (spendDraws n s).semaphore = s.semaphore := rfl
@[simp] theorem spendDraws_latch (n : Nat) (s : State) : (spendDraws n s).latch = s.latch := rfl
@[simp] theorem spendDraws_inputs (n : Nat) (s : State) : (spendDraws n s).inputs = s.inputs := rfl
@[simp] theorem spendDraws_draws (n : Nat) (s : State) : (spendDraws n s).draws = s.draws + n := rfl
@[simp] theorem spendDraws_ticks (n : Nat) (s : State) : (spendDraws n s).ticks = s.ticks := rfl
@[simp] theorem spendDraws_epoch (n : Nat) (s : State) : (spendDraws n s).epoch = s.epoch := rfl

/-! ### writeGpr -/

@[simp] theorem writeGpr_hi (s : State) (r : Reg) (v : Word) : (writeGpr s r v).hi = s.hi := by unfold writeGpr; split <;> rfl
@[simp] theorem writeGpr_lo (s : State) (r : Reg) (v : Word) : (writeGpr s r v).lo = s.lo := by unfold writeGpr; split <;> rfl
@[simp] theorem writeGpr_pc (s : State) (r : Reg) (v : Word) : (writeGpr s r v).pc = s.pc := by unfold writeGpr; split <;> rfl
@[simp] theorem writeGpr_delay (s : State) (r : Reg) (v : Word) : (writeGpr s r v).delay = s.delay := by unfold writeGpr; split <;> rfl
@[simp] theorem writeGpr_fgr (s : State) (r : Reg) (v : Word) : (writeGpr s r v).fgr = s.fgr := by unfold writeGpr; split <;> rfl
@[simp] theorem writeGpr_fgrLowFr (s : State) (r : Reg) (v : Word) : (writeGpr s r v).fgrLowFr = s.fgrLowFr := by unfold writeGpr; split <;> rfl
@[simp] theorem writeGpr_fgrHighFr (s : State) (r : Reg) (v : Word) : (writeGpr s r v).fgrHighFr = s.fgrHighFr := by unfold writeGpr; split <;> rfl
@[simp] theorem writeGpr_fcr0 (s : State) (r : Reg) (v : Word) : (writeGpr s r v).fcr0 = s.fcr0 := by unfold writeGpr; split <;> rfl
@[simp] theorem writeGpr_fcr31 (s : State) (r : Reg) (v : Word) : (writeGpr s r v).fcr31 = s.fcr31 := by unfold writeGpr; split <;> rfl
@[simp] theorem writeGpr_llbit (s : State) (r : Reg) (v : Word) : (writeGpr s r v).llbit = s.llbit := by unfold writeGpr; split <;> rfl
@[simp] theorem writeGpr_cp0 (s : State) (r : Reg) (v : Word) : (writeGpr s r v).cp0 = s.cp0 := by unfold writeGpr; split <;> rfl
@[simp] theorem writeGpr_tlb (s : State) (r : Reg) (v : Word) : (writeGpr s r v).tlb = s.tlb := by unfold writeGpr; split <;> rfl
@[simp] theorem writeGpr_timerCond (s : State) (r : Reg) (v : Word) : (writeGpr s r v).timerCond = s.timerCond := by unfold writeGpr; split <;> rfl
@[simp] theorem writeGpr_intPins (s : State) (r : Reg) (v : Word) : (writeGpr s r v).intPins = s.intPins := by unfold writeGpr; split <;> rfl
@[simp] theorem writeGpr_coldResetPin (s : State) (r : Reg) (v : Word) : (writeGpr s r v).coldResetPin = s.coldResetPin := by unfold writeGpr; split <;> rfl
@[simp] theorem writeGpr_softResetPin (s : State) (r : Reg) (v : Word) : (writeGpr s r v).softResetPin = s.softResetPin := by unfold writeGpr; split <;> rfl
@[simp] theorem writeGpr_nmiPin (s : State) (r : Reg) (v : Word) : (writeGpr s r v).nmiPin = s.nmiPin := by unfold writeGpr; split <;> rfl
@[simp] theorem writeGpr_mem (s : State) (r : Reg) (v : Word) : (writeGpr s r v).mem = s.mem := by unfold writeGpr; split <;> rfl
@[simp] theorem writeGpr_rdramSize (s : State) (r : Reg) (v : Word) : (writeGpr s r v).rdramSize = s.rdramSize := by unfold writeGpr; split <;> rfl
@[simp] theorem writeGpr_viRegs (s : State) (r : Reg) (v : Word) : (writeGpr s r v).viRegs = s.viRegs := by unfold writeGpr; split <;> rfl
@[simp] theorem writeGpr_piRegs (s : State) (r : Reg) (v : Word) : (writeGpr s r v).piRegs = s.piRegs := by unfold writeGpr; split <;> rfl
@[simp] theorem writeGpr_siRegs (s : State) (r : Reg) (v : Word) : (writeGpr s r v).siRegs = s.siRegs := by unfold writeGpr; split <;> rfl
@[simp] theorem writeGpr_spRegs (s : State) (r : Reg) (v : Word) : (writeGpr s r v).spRegs = s.spRegs := by unfold writeGpr; split <;> rfl
@[simp] theorem writeGpr_spPcRegs (s : State) (r : Reg) (v : Word) : (writeGpr s r v).spPcRegs = s.spPcRegs := by unfold writeGpr; split <;> rfl
@[simp] theorem writeGpr_spStatus (s : State) (r : Reg) (v : Word) : (writeGpr s r v).spStatus = s.spStatus := by unfold writeGpr; split <;> rfl
@[simp] theorem writeGpr_semaphore (s : State) (r : Reg) (v : Word) : (writeGpr s r v).semaphore = s.semaphore := by unfold writeGpr; split <;> rfl
@[simp] theorem writeGpr_latch (s : State) (r : Reg) (v : Word) : (writeGpr s r v).latch = s.latch := by unfold writeGpr; split <;> rfl
@[simp] theorem writeGpr_inputs (s : State) (r : Reg) (v : Word) : (writeGpr s r v).inputs = s.inputs := by unfold writeGpr; split <;> rfl
@[simp] theorem writeGpr_draws (s : State) (r : Reg) (v : Word) : (writeGpr s r v).draws = s.draws := by unfold writeGpr; split <;> rfl
@[simp] theorem writeGpr_ticks (s : State) (r : Reg) (v : Word) : (writeGpr s r v).ticks = s.ticks := by unfold writeGpr; split <;> rfl
@[simp] theorem writeGpr_epoch (s : State) (r : Reg) (v : Word) : (writeGpr s r v).epoch = s.epoch := by unfold writeGpr; split <;> rfl

/-! ### writeHiLo -/

@[simp] theorem writeHiLo_gpr (s : State) (h l : Word) : (writeHiLo s h l).gpr = s.gpr := rfl
@[simp] theorem writeHiLo_hi (s : State) (h l : Word) : (writeHiLo s h l).hi = h := rfl
@[simp] theorem writeHiLo_lo (s : State) (h l : Word) : (writeHiLo s h l).lo = l := rfl
@[simp] theorem writeHiLo_pc (s : State) (h l : Word) : (writeHiLo s h l).pc = s.pc := rfl
@[simp] theorem writeHiLo_delay (s : State) (h l : Word) : (writeHiLo s h l).delay = s.delay := rfl
@[simp] theorem writeHiLo_fgr (s : State) (h l : Word) : (writeHiLo s h l).fgr = s.fgr := rfl
@[simp] theorem writeHiLo_fgrLowFr (s : State) (h l : Word) : (writeHiLo s h l).fgrLowFr = s.fgrLowFr := rfl
@[simp] theorem writeHiLo_fgrHighFr (s : State) (h l : Word) : (writeHiLo s h l).fgrHighFr = s.fgrHighFr := rfl
@[simp] theorem writeHiLo_fcr0 (s : State) (h l : Word) : (writeHiLo s h l).fcr0 = s.fcr0 := rfl
@[simp] theorem writeHiLo_fcr31 (s : State) (h l : Word) : (writeHiLo s h l).fcr31 = s.fcr31 := rfl
@[simp] theorem writeHiLo_llbit (s : State) (h l : Word) : (writeHiLo s h l).llbit = s.llbit := rfl
@[simp] theorem writeHiLo_cp0 (s : State) (h l : Word) : (writeHiLo s h l).cp0 = s.cp0 := rfl
@[simp] theorem writeHiLo_tlb (s : State) (h l : Word) : (writeHiLo s h l).tlb = s.tlb := rfl
@[simp] theorem writeHiLo_timerCond (s : State) (h l : Word) : (writeHiLo s h l).timerCond = s.timerCond := rfl
@[simp] theorem writeHiLo_intPins (s : State) (h l : Word) : (writeHiLo s h l).intPins = s.intPins := rfl
@[simp] theorem writeHiLo_coldResetPin (s : State) (h l : Word) : (writeHiLo s h l).coldResetPin = s.coldResetPin := rfl
@[simp] theorem writeHiLo_softResetPin (s : State) (h l : Word) : (writeHiLo s h l).softResetPin = s.softResetPin := rfl
@[simp] theorem writeHiLo_nmiPin (s : State) (h l : Word) : (writeHiLo s h l).nmiPin = s.nmiPin := rfl
@[simp] theorem writeHiLo_mem (s : State) (h l : Word) : (writeHiLo s h l).mem = s.mem := rfl
@[simp] theorem writeHiLo_rdramSize (s : State) (h l : Word) : (writeHiLo s h l).rdramSize = s.rdramSize := rfl
@[simp] theorem writeHiLo_viRegs (s : State) (h l : Word) : (writeHiLo s h l).viRegs = s.viRegs := rfl
@[simp] theorem writeHiLo_piRegs (s : State) (h l : Word) : (writeHiLo s h l).piRegs = s.piRegs := rfl
@[simp] theorem writeHiLo_siRegs (s : State) (h l : Word) : (writeHiLo s h l).siRegs = s.siRegs := rfl
@[simp] theorem writeHiLo_spRegs (s : State) (h l : Word) : (writeHiLo s h l).spRegs = s.spRegs := rfl
@[simp] theorem writeHiLo_spPcRegs (s : State) (h l : Word) : (writeHiLo s h l).spPcRegs = s.spPcRegs := rfl
@[simp] theorem writeHiLo_spStatus (s : State) (h l : Word) : (writeHiLo s h l).spStatus = s.spStatus := rfl
@[simp] theorem writeHiLo_semaphore (s : State) (h l : Word) : (writeHiLo s h l).semaphore = s.semaphore := rfl
@[simp] theorem writeHiLo_latch (s : State) (h l : Word) : (writeHiLo s h l).latch = s.latch := rfl
@[simp] theorem writeHiLo_inputs (s : State) (h l : Word) : (writeHiLo s h l).inputs = s.inputs := rfl
@[simp] theorem writeHiLo_draws (s : State) (h l : Word) : (writeHiLo s h l).draws = s.draws := rfl
@[simp] theorem writeHiLo_ticks (s : State) (h l : Word) : (writeHiLo s h l).ticks = s.ticks := rfl
@[simp] theorem writeHiLo_epoch (s : State) (h l : Word) : (writeHiLo s h l).epoch = s.epoch := rfl

/-! ### writeCell -/

@[simp] theorem writeCell_gpr (s : State) (i : Reg) (v : Word) : (writeCell s i v).gpr = s.gpr := rfl
@[simp] theorem writeCell_hi (s : State) (i : Reg) (v : Word) : (writeCell s i v).hi = s.hi := rfl
@[simp] theorem writeCell_lo (s : State) (i : Reg) (v : Word) : (writeCell s i v).lo = s.lo := rfl
@[simp] theorem writeCell_pc (s : State) (i : Reg) (v : Word) : (writeCell s i v).pc = s.pc := rfl
@[simp] theorem writeCell_delay (s : State) (i : Reg) (v : Word) : (writeCell s i v).delay = s.delay := rfl
@[simp] theorem writeCell_fgr (s : State) (i : Reg) (v : Word) : (writeCell s i v).fgr = s.fgr.set i.toNat v i.isLt := rfl
@[simp] theorem writeCell_fgrLowFr (s : State) (i : Reg) (v : Word) : (writeCell s i v).fgrLowFr = s.fgrLowFr.set i.toNat (fr s) i.isLt := rfl
@[simp] theorem writeCell_fgrHighFr (s : State) (i : Reg) (v : Word) : (writeCell s i v).fgrHighFr = s.fgrHighFr.set i.toNat (fr s) i.isLt := rfl
@[simp] theorem writeCell_fcr0 (s : State) (i : Reg) (v : Word) : (writeCell s i v).fcr0 = s.fcr0 := rfl
@[simp] theorem writeCell_fcr31 (s : State) (i : Reg) (v : Word) : (writeCell s i v).fcr31 = s.fcr31 := rfl
@[simp] theorem writeCell_llbit (s : State) (i : Reg) (v : Word) : (writeCell s i v).llbit = s.llbit := rfl
@[simp] theorem writeCell_cp0 (s : State) (i : Reg) (v : Word) : (writeCell s i v).cp0 = s.cp0 := rfl
@[simp] theorem writeCell_tlb (s : State) (i : Reg) (v : Word) : (writeCell s i v).tlb = s.tlb := rfl
@[simp] theorem writeCell_timerCond (s : State) (i : Reg) (v : Word) : (writeCell s i v).timerCond = s.timerCond := rfl
@[simp] theorem writeCell_intPins (s : State) (i : Reg) (v : Word) : (writeCell s i v).intPins = s.intPins := rfl
@[simp] theorem writeCell_coldResetPin (s : State) (i : Reg) (v : Word) : (writeCell s i v).coldResetPin = s.coldResetPin := rfl
@[simp] theorem writeCell_softResetPin (s : State) (i : Reg) (v : Word) : (writeCell s i v).softResetPin = s.softResetPin := rfl
@[simp] theorem writeCell_nmiPin (s : State) (i : Reg) (v : Word) : (writeCell s i v).nmiPin = s.nmiPin := rfl
@[simp] theorem writeCell_mem (s : State) (i : Reg) (v : Word) : (writeCell s i v).mem = s.mem := rfl
@[simp] theorem writeCell_rdramSize (s : State) (i : Reg) (v : Word) : (writeCell s i v).rdramSize = s.rdramSize := rfl
@[simp] theorem writeCell_viRegs (s : State) (i : Reg) (v : Word) : (writeCell s i v).viRegs = s.viRegs := rfl
@[simp] theorem writeCell_piRegs (s : State) (i : Reg) (v : Word) : (writeCell s i v).piRegs = s.piRegs := rfl
@[simp] theorem writeCell_siRegs (s : State) (i : Reg) (v : Word) : (writeCell s i v).siRegs = s.siRegs := rfl
@[simp] theorem writeCell_spRegs (s : State) (i : Reg) (v : Word) : (writeCell s i v).spRegs = s.spRegs := rfl
@[simp] theorem writeCell_spPcRegs (s : State) (i : Reg) (v : Word) : (writeCell s i v).spPcRegs = s.spPcRegs := rfl
@[simp] theorem writeCell_spStatus (s : State) (i : Reg) (v : Word) : (writeCell s i v).spStatus = s.spStatus := rfl
@[simp] theorem writeCell_semaphore (s : State) (i : Reg) (v : Word) : (writeCell s i v).semaphore = s.semaphore := rfl
@[simp] theorem writeCell_latch (s : State) (i : Reg) (v : Word) : (writeCell s i v).latch = s.latch := rfl
@[simp] theorem writeCell_inputs (s : State) (i : Reg) (v : Word) : (writeCell s i v).inputs = s.inputs := rfl
@[simp] theorem writeCell_draws (s : State) (i : Reg) (v : Word) : (writeCell s i v).draws = s.draws := rfl
@[simp] theorem writeCell_ticks (s : State) (i : Reg) (v : Word) : (writeCell s i v).ticks = s.ticks := rfl
@[simp] theorem writeCell_epoch (s : State) (i : Reg) (v : Word) : (writeCell s i v).epoch = s.epoch := rfl

/-! ### writeLow -/

@[simp] theorem writeLow_gpr (s : State) (i : Reg) (v : Word32) : (writeLow s i v).gpr = s.gpr := rfl
@[simp] theorem writeLow_hi (s : State) (i : Reg) (v : Word32) : (writeLow s i v).hi = s.hi := rfl
@[simp] theorem writeLow_lo (s : State) (i : Reg) (v : Word32) : (writeLow s i v).lo = s.lo := rfl
@[simp] theorem writeLow_pc (s : State) (i : Reg) (v : Word32) : (writeLow s i v).pc = s.pc := rfl
@[simp] theorem writeLow_delay (s : State) (i : Reg) (v : Word32) : (writeLow s i v).delay = s.delay := rfl
@[simp] theorem writeLow_fgrLowFr (s : State) (i : Reg) (v : Word32) : (writeLow s i v).fgrLowFr = s.fgrLowFr.set i.toNat (fr s) i.isLt := rfl
@[simp] theorem writeLow_fgrHighFr (s : State) (i : Reg) (v : Word32) : (writeLow s i v).fgrHighFr = s.fgrHighFr := rfl
@[simp] theorem writeLow_fcr0 (s : State) (i : Reg) (v : Word32) : (writeLow s i v).fcr0 = s.fcr0 := rfl
@[simp] theorem writeLow_fcr31 (s : State) (i : Reg) (v : Word32) : (writeLow s i v).fcr31 = s.fcr31 := rfl
@[simp] theorem writeLow_llbit (s : State) (i : Reg) (v : Word32) : (writeLow s i v).llbit = s.llbit := rfl
@[simp] theorem writeLow_cp0 (s : State) (i : Reg) (v : Word32) : (writeLow s i v).cp0 = s.cp0 := rfl
@[simp] theorem writeLow_tlb (s : State) (i : Reg) (v : Word32) : (writeLow s i v).tlb = s.tlb := rfl
@[simp] theorem writeLow_timerCond (s : State) (i : Reg) (v : Word32) : (writeLow s i v).timerCond = s.timerCond := rfl
@[simp] theorem writeLow_intPins (s : State) (i : Reg) (v : Word32) : (writeLow s i v).intPins = s.intPins := rfl
@[simp] theorem writeLow_coldResetPin (s : State) (i : Reg) (v : Word32) : (writeLow s i v).coldResetPin = s.coldResetPin := rfl
@[simp] theorem writeLow_softResetPin (s : State) (i : Reg) (v : Word32) : (writeLow s i v).softResetPin = s.softResetPin := rfl
@[simp] theorem writeLow_nmiPin (s : State) (i : Reg) (v : Word32) : (writeLow s i v).nmiPin = s.nmiPin := rfl
@[simp] theorem writeLow_mem (s : State) (i : Reg) (v : Word32) : (writeLow s i v).mem = s.mem := rfl
@[simp] theorem writeLow_rdramSize (s : State) (i : Reg) (v : Word32) : (writeLow s i v).rdramSize = s.rdramSize := rfl
@[simp] theorem writeLow_viRegs (s : State) (i : Reg) (v : Word32) : (writeLow s i v).viRegs = s.viRegs := rfl
@[simp] theorem writeLow_piRegs (s : State) (i : Reg) (v : Word32) : (writeLow s i v).piRegs = s.piRegs := rfl
@[simp] theorem writeLow_siRegs (s : State) (i : Reg) (v : Word32) : (writeLow s i v).siRegs = s.siRegs := rfl
@[simp] theorem writeLow_spRegs (s : State) (i : Reg) (v : Word32) : (writeLow s i v).spRegs = s.spRegs := rfl
@[simp] theorem writeLow_spPcRegs (s : State) (i : Reg) (v : Word32) : (writeLow s i v).spPcRegs = s.spPcRegs := rfl
@[simp] theorem writeLow_spStatus (s : State) (i : Reg) (v : Word32) : (writeLow s i v).spStatus = s.spStatus := rfl
@[simp] theorem writeLow_semaphore (s : State) (i : Reg) (v : Word32) : (writeLow s i v).semaphore = s.semaphore := rfl
@[simp] theorem writeLow_latch (s : State) (i : Reg) (v : Word32) : (writeLow s i v).latch = s.latch := rfl
@[simp] theorem writeLow_inputs (s : State) (i : Reg) (v : Word32) : (writeLow s i v).inputs = s.inputs := rfl
@[simp] theorem writeLow_draws (s : State) (i : Reg) (v : Word32) : (writeLow s i v).draws = s.draws := rfl
@[simp] theorem writeLow_ticks (s : State) (i : Reg) (v : Word32) : (writeLow s i v).ticks = s.ticks := rfl
@[simp] theorem writeLow_epoch (s : State) (i : Reg) (v : Word32) : (writeLow s i v).epoch = s.epoch := rfl

/-! ### writeHigh -/

@[simp] theorem writeHigh_gpr (s : State) (i : Reg) (v : Word32) : (writeHigh s i v).gpr = s.gpr := rfl
@[simp] theorem writeHigh_hi (s : State) (i : Reg) (v : Word32) : (writeHigh s i v).hi = s.hi := rfl
@[simp] theorem writeHigh_lo (s : State) (i : Reg) (v : Word32) : (writeHigh s i v).lo = s.lo := rfl
@[simp] theorem writeHigh_pc (s : State) (i : Reg) (v : Word32) : (writeHigh s i v).pc = s.pc := rfl
@[simp] theorem writeHigh_delay (s : State) (i : Reg) (v : Word32) : (writeHigh s i v).delay = s.delay := rfl
@[simp] theorem writeHigh_fgrLowFr (s : State) (i : Reg) (v : Word32) : (writeHigh s i v).fgrLowFr = s.fgrLowFr := rfl
@[simp] theorem writeHigh_fgrHighFr (s : State) (i : Reg) (v : Word32) : (writeHigh s i v).fgrHighFr = s.fgrHighFr.set i.toNat (fr s) i.isLt := rfl
@[simp] theorem writeHigh_fcr0 (s : State) (i : Reg) (v : Word32) : (writeHigh s i v).fcr0 = s.fcr0 := rfl
@[simp] theorem writeHigh_fcr31 (s : State) (i : Reg) (v : Word32) : (writeHigh s i v).fcr31 = s.fcr31 := rfl
@[simp] theorem writeHigh_llbit (s : State) (i : Reg) (v : Word32) : (writeHigh s i v).llbit = s.llbit := rfl
@[simp] theorem writeHigh_cp0 (s : State) (i : Reg) (v : Word32) : (writeHigh s i v).cp0 = s.cp0 := rfl
@[simp] theorem writeHigh_tlb (s : State) (i : Reg) (v : Word32) : (writeHigh s i v).tlb = s.tlb := rfl
@[simp] theorem writeHigh_timerCond (s : State) (i : Reg) (v : Word32) : (writeHigh s i v).timerCond = s.timerCond := rfl
@[simp] theorem writeHigh_intPins (s : State) (i : Reg) (v : Word32) : (writeHigh s i v).intPins = s.intPins := rfl
@[simp] theorem writeHigh_coldResetPin (s : State) (i : Reg) (v : Word32) : (writeHigh s i v).coldResetPin = s.coldResetPin := rfl
@[simp] theorem writeHigh_softResetPin (s : State) (i : Reg) (v : Word32) : (writeHigh s i v).softResetPin = s.softResetPin := rfl
@[simp] theorem writeHigh_nmiPin (s : State) (i : Reg) (v : Word32) : (writeHigh s i v).nmiPin = s.nmiPin := rfl
@[simp] theorem writeHigh_mem (s : State) (i : Reg) (v : Word32) : (writeHigh s i v).mem = s.mem := rfl
@[simp] theorem writeHigh_rdramSize (s : State) (i : Reg) (v : Word32) : (writeHigh s i v).rdramSize = s.rdramSize := rfl
@[simp] theorem writeHigh_viRegs (s : State) (i : Reg) (v : Word32) : (writeHigh s i v).viRegs = s.viRegs := rfl
@[simp] theorem writeHigh_piRegs (s : State) (i : Reg) (v : Word32) : (writeHigh s i v).piRegs = s.piRegs := rfl
@[simp] theorem writeHigh_siRegs (s : State) (i : Reg) (v : Word32) : (writeHigh s i v).siRegs = s.siRegs := rfl
@[simp] theorem writeHigh_spRegs (s : State) (i : Reg) (v : Word32) : (writeHigh s i v).spRegs = s.spRegs := rfl
@[simp] theorem writeHigh_spPcRegs (s : State) (i : Reg) (v : Word32) : (writeHigh s i v).spPcRegs = s.spPcRegs := rfl
@[simp] theorem writeHigh_spStatus (s : State) (i : Reg) (v : Word32) : (writeHigh s i v).spStatus = s.spStatus := rfl
@[simp] theorem writeHigh_semaphore (s : State) (i : Reg) (v : Word32) : (writeHigh s i v).semaphore = s.semaphore := rfl
@[simp] theorem writeHigh_latch (s : State) (i : Reg) (v : Word32) : (writeHigh s i v).latch = s.latch := rfl
@[simp] theorem writeHigh_inputs (s : State) (i : Reg) (v : Word32) : (writeHigh s i v).inputs = s.inputs := rfl
@[simp] theorem writeHigh_draws (s : State) (i : Reg) (v : Word32) : (writeHigh s i v).draws = s.draws := rfl
@[simp] theorem writeHigh_ticks (s : State) (i : Reg) (v : Word32) : (writeHigh s i v).ticks = s.ticks := rfl
@[simp] theorem writeHigh_epoch (s : State) (i : Reg) (v : Word32) : (writeHigh s i v).epoch = s.epoch := rfl

/-! ### setMemByte -/

@[simp] theorem setMemByte_gpr (a : Nat) (b : Byte) (s : State) : (setMemByte a b s).gpr = s.gpr := rfl
@[simp] theorem setMemByte_hi (a : Nat) (b : Byte) (s : State) : (setMemByte a b s).hi = s.hi := rfl
@[simp] theorem setMemByte_lo (a : Nat) (b : Byte) (s : State) : (setMemByte a b s).lo = s.lo := rfl
@[simp] theorem setMemByte_pc (a : Nat) (b : Byte) (s : State) : (setMemByte a b s).pc = s.pc := rfl
@[simp] theorem setMemByte_delay (a : Nat) (b : Byte) (s : State) : (setMemByte a b s).delay = s.delay := rfl
@[simp] theorem setMemByte_fgr (a : Nat) (b : Byte) (s : State) : (setMemByte a b s).fgr = s.fgr := rfl
@[simp] theorem setMemByte_fgrLowFr (a : Nat) (b : Byte) (s : State) : (setMemByte a b s).fgrLowFr = s.fgrLowFr := rfl
@[simp] theorem setMemByte_fgrHighFr (a : Nat) (b : Byte) (s : State) : (setMemByte a b s).fgrHighFr = s.fgrHighFr := rfl
@[simp] theorem setMemByte_fcr0 (a : Nat) (b : Byte) (s : State) : (setMemByte a b s).fcr0 = s.fcr0 := rfl
@[simp] theorem setMemByte_fcr31 (a : Nat) (b : Byte) (s : State) : (setMemByte a b s).fcr31 = s.fcr31 := rfl
@[simp] theorem setMemByte_llbit (a : Nat) (b : Byte) (s : State) : (setMemByte a b s).llbit = s.llbit := rfl
@[simp] theorem setMemByte_cp0 (a : Nat) (b : Byte) (s : State) : (setMemByte a b s).cp0 = s.cp0 := rfl
@[simp] theorem setMemByte_tlb (a : Nat) (b : Byte) (s : State) : (setMemByte a b s).tlb = s.tlb := rfl
@[simp] theorem setMemByte_timerCond (a : Nat) (b : Byte) (s : State) : (setMemByte a b s).timerCond = s.timerCond := rfl
@[simp] theorem setMemByte_intPins (a : Nat) (b : Byte) (s : State) : (setMemByte a b s).intPins = s.intPins := rfl
@[simp] theorem setMemByte_coldResetPin (a : Nat) (b : Byte) (s : State) : (setMemByte a b s).coldResetPin = s.coldResetPin := rfl
@[simp] theorem setMemByte_softResetPin (a : Nat) (b : Byte) (s : State) : (setMemByte a b s).softResetPin = s.softResetPin := rfl
@[simp] theorem setMemByte_nmiPin (a : Nat) (b : Byte) (s : State) : (setMemByte a b s).nmiPin = s.nmiPin := rfl
@[simp] theorem setMemByte_mem (a : Nat) (b : Byte) (s : State) : (setMemByte a b s).mem = Memory.write a b s.mem := rfl
@[simp] theorem setMemByte_rdramSize (a : Nat) (b : Byte) (s : State) : (setMemByte a b s).rdramSize = s.rdramSize := rfl
@[simp] theorem setMemByte_viRegs (a : Nat) (b : Byte) (s : State) : (setMemByte a b s).viRegs = s.viRegs := rfl
@[simp] theorem setMemByte_piRegs (a : Nat) (b : Byte) (s : State) : (setMemByte a b s).piRegs = s.piRegs := rfl
@[simp] theorem setMemByte_siRegs (a : Nat) (b : Byte) (s : State) : (setMemByte a b s).siRegs = s.siRegs := rfl
@[simp] theorem setMemByte_spRegs (a : Nat) (b : Byte) (s : State) : (setMemByte a b s).spRegs = s.spRegs := rfl
@[simp] theorem setMemByte_spPcRegs (a : Nat) (b : Byte) (s : State) : (setMemByte a b s).spPcRegs = s.spPcRegs := rfl
@[simp] theorem setMemByte_spStatus (a : Nat) (b : Byte) (s : State) : (setMemByte a b s).spStatus = s.spStatus := rfl
@[simp] theorem setMemByte_semaphore (a : Nat) (b : Byte) (s : State) : (setMemByte a b s).semaphore = s.semaphore := rfl
@[simp] theorem setMemByte_latch (a : Nat) (b : Byte) (s : State) : (setMemByte a b s).latch = s.latch := rfl
@[simp] theorem setMemByte_inputs (a : Nat) (b : Byte) (s : State) : (setMemByte a b s).inputs = s.inputs := rfl
@[simp] theorem setMemByte_draws (a : Nat) (b : Byte) (s : State) : (setMemByte a b s).draws = s.draws := rfl
@[simp] theorem setMemByte_ticks (a : Nat) (b : Byte) (s : State) : (setMemByte a b s).ticks = s.ticks := rfl
@[simp] theorem setMemByte_epoch (a : Nat) (b : Byte) (s : State) : (setMemByte a b s).epoch = s.epoch := rfl

/-! ### retire -/

@[simp] theorem retire_gpr (s : State) : (retire s).gpr = s.gpr := by unfold retire; split <;> rfl
@[simp] theorem retire_hi (s : State) : (retire s).hi = s.hi := by unfold retire; split <;> rfl
@[simp] theorem retire_lo (s : State) : (retire s).lo = s.lo := by unfold retire; split <;> rfl
@[simp] theorem retire_delay (s : State) : (retire s).delay = none := by
  unfold retire; split
  · rfl
  · assumption
@[simp] theorem retire_fgr (s : State) : (retire s).fgr = s.fgr := by unfold retire; split <;> rfl
@[simp] theorem retire_fgrLowFr (s : State) : (retire s).fgrLowFr = s.fgrLowFr := by unfold retire; split <;> rfl
@[simp] theorem retire_fgrHighFr (s : State) : (retire s).fgrHighFr = s.fgrHighFr := by unfold retire; split <;> rfl
@[simp] theorem retire_fcr0 (s : State) : (retire s).fcr0 = s.fcr0 := by unfold retire; split <;> rfl
@[simp] theorem retire_fcr31 (s : State) : (retire s).fcr31 = s.fcr31 := by unfold retire; split <;> rfl
@[simp] theorem retire_llbit (s : State) : (retire s).llbit = s.llbit := by unfold retire; split <;> rfl
@[simp] theorem retire_cp0 (s : State) : (retire s).cp0 = s.cp0 := by unfold retire; split <;> rfl
@[simp] theorem retire_tlb (s : State) : (retire s).tlb = s.tlb := by unfold retire; split <;> rfl
@[simp] theorem retire_timerCond (s : State) : (retire s).timerCond = s.timerCond := by unfold retire; split <;> rfl
@[simp] theorem retire_intPins (s : State) : (retire s).intPins = s.intPins := by unfold retire; split <;> rfl
@[simp] theorem retire_coldResetPin (s : State) : (retire s).coldResetPin = s.coldResetPin := by unfold retire; split <;> rfl
@[simp] theorem retire_softResetPin (s : State) : (retire s).softResetPin = s.softResetPin := by unfold retire; split <;> rfl
@[simp] theorem retire_nmiPin (s : State) : (retire s).nmiPin = s.nmiPin := by unfold retire; split <;> rfl
@[simp] theorem retire_mem (s : State) : (retire s).mem = s.mem := by unfold retire; split <;> rfl
@[simp] theorem retire_rdramSize (s : State) : (retire s).rdramSize = s.rdramSize := by unfold retire; split <;> rfl
@[simp] theorem retire_viRegs (s : State) : (retire s).viRegs = s.viRegs := by unfold retire; split <;> rfl
@[simp] theorem retire_piRegs (s : State) : (retire s).piRegs = s.piRegs := by unfold retire; split <;> rfl
@[simp] theorem retire_siRegs (s : State) : (retire s).siRegs = s.siRegs := by unfold retire; split <;> rfl
@[simp] theorem retire_spRegs (s : State) : (retire s).spRegs = s.spRegs := by unfold retire; split <;> rfl
@[simp] theorem retire_spPcRegs (s : State) : (retire s).spPcRegs = s.spPcRegs := by unfold retire; split <;> rfl
@[simp] theorem retire_spStatus (s : State) : (retire s).spStatus = s.spStatus := by unfold retire; split <;> rfl
@[simp] theorem retire_semaphore (s : State) : (retire s).semaphore = s.semaphore := by unfold retire; split <;> rfl
@[simp] theorem retire_latch (s : State) : (retire s).latch = s.latch := by unfold retire; split <;> rfl
@[simp] theorem retire_inputs (s : State) : (retire s).inputs = s.inputs := by unfold retire; split <;> rfl
@[simp] theorem retire_draws (s : State) : (retire s).draws = s.draws := by unfold retire; split <;> rfl
@[simp] theorem retire_ticks (s : State) : (retire s).ticks = s.ticks := by unfold retire; split <;> rfl
@[simp] theorem retire_epoch (s : State) : (retire s).epoch = s.epoch := by unfold retire; split <;> rfl

/-! ### writeF32 -/

@[simp] theorem writeF32_gpr (s : State) (i : Reg) (v : Word32) : (writeF32 s i v).gpr = s.gpr := by unfold writeF32; split <;> [rfl; (split <;> rfl)]
@[simp] theorem writeF32_hi (s : State) (i : Reg) (v : Word32) : (writeF32 s i v).hi = s.hi := by unfold writeF32; split <;> [rfl; (split <;> rfl)]
@[simp] theorem writeF32_lo (s : State) (i : Reg) (v : Word32) : (writeF32 s i v).lo = s.lo := by unfold writeF32; split <;> [rfl; (split <;> rfl)]
@[simp] theorem writeF32_pc (s : State) (i : Reg) (v : Word32) : (writeF32 s i v).pc = s.pc := by unfold writeF32; split <;> [rfl; (split <;> rfl)]
@[simp] theorem writeF32_delay (s : State) (i : Reg) (v : Word32) : (writeF32 s i v).delay = s.delay := by unfold writeF32; split <;> [rfl; (split <;> rfl)]
@[simp] theorem writeF32_fcr0 (s : State) (i : Reg) (v : Word32) : (writeF32 s i v).fcr0 = s.fcr0 := by unfold writeF32; split <;> [rfl; (split <;> rfl)]
@[simp] theorem writeF32_fcr31 (s : State) (i : Reg) (v : Word32) : (writeF32 s i v).fcr31 = s.fcr31 := by unfold writeF32; split <;> [rfl; (split <;> rfl)]
@[simp] theorem writeF32_llbit (s : State) (i : Reg) (v : Word32) : (writeF32 s i v).llbit = s.llbit := by unfold writeF32; split <;> [rfl; (split <;> rfl)]
@[simp] theorem writeF32_cp0 (s : State) (i : Reg) (v : Word32) : (writeF32 s i v).cp0 = s.cp0 := by unfold writeF32; split <;> [rfl; (split <;> rfl)]
@[simp] theorem writeF32_tlb (s : State) (i : Reg) (v : Word32) : (writeF32 s i v).tlb = s.tlb := by unfold writeF32; split <;> [rfl; (split <;> rfl)]
@[simp] theorem writeF32_timerCond (s : State) (i : Reg) (v : Word32) : (writeF32 s i v).timerCond = s.timerCond := by unfold writeF32; split <;> [rfl; (split <;> rfl)]
@[simp] theorem writeF32_intPins (s : State) (i : Reg) (v : Word32) : (writeF32 s i v).intPins = s.intPins := by unfold writeF32; split <;> [rfl; (split <;> rfl)]
@[simp] theorem writeF32_coldResetPin (s : State) (i : Reg) (v : Word32) : (writeF32 s i v).coldResetPin = s.coldResetPin := by unfold writeF32; split <;> [rfl; (split <;> rfl)]
@[simp] theorem writeF32_softResetPin (s : State) (i : Reg) (v : Word32) : (writeF32 s i v).softResetPin = s.softResetPin := by unfold writeF32; split <;> [rfl; (split <;> rfl)]
@[simp] theorem writeF32_nmiPin (s : State) (i : Reg) (v : Word32) : (writeF32 s i v).nmiPin = s.nmiPin := by unfold writeF32; split <;> [rfl; (split <;> rfl)]
@[simp] theorem writeF32_mem (s : State) (i : Reg) (v : Word32) : (writeF32 s i v).mem = s.mem := by unfold writeF32; split <;> [rfl; (split <;> rfl)]
@[simp] theorem writeF32_rdramSize (s : State) (i : Reg) (v : Word32) : (writeF32 s i v).rdramSize = s.rdramSize := by unfold writeF32; split <;> [rfl; (split <;> rfl)]
@[simp] theorem writeF32_viRegs (s : State) (i : Reg) (v : Word32) : (writeF32 s i v).viRegs = s.viRegs := by unfold writeF32; split <;> [rfl; (split <;> rfl)]
@[simp] theorem writeF32_piRegs (s : State) (i : Reg) (v : Word32) : (writeF32 s i v).piRegs = s.piRegs := by unfold writeF32; split <;> [rfl; (split <;> rfl)]
@[simp] theorem writeF32_siRegs (s : State) (i : Reg) (v : Word32) : (writeF32 s i v).siRegs = s.siRegs := by unfold writeF32; split <;> [rfl; (split <;> rfl)]
@[simp] theorem writeF32_spRegs (s : State) (i : Reg) (v : Word32) : (writeF32 s i v).spRegs = s.spRegs := by unfold writeF32; split <;> [rfl; (split <;> rfl)]
@[simp] theorem writeF32_spPcRegs (s : State) (i : Reg) (v : Word32) : (writeF32 s i v).spPcRegs = s.spPcRegs := by unfold writeF32; split <;> [rfl; (split <;> rfl)]
@[simp] theorem writeF32_spStatus (s : State) (i : Reg) (v : Word32) : (writeF32 s i v).spStatus = s.spStatus := by unfold writeF32; split <;> [rfl; (split <;> rfl)]
@[simp] theorem writeF32_semaphore (s : State) (i : Reg) (v : Word32) : (writeF32 s i v).semaphore = s.semaphore := by unfold writeF32; split <;> [rfl; (split <;> rfl)]
@[simp] theorem writeF32_latch (s : State) (i : Reg) (v : Word32) : (writeF32 s i v).latch = s.latch := by unfold writeF32; split <;> [rfl; (split <;> rfl)]
@[simp] theorem writeF32_inputs (s : State) (i : Reg) (v : Word32) : (writeF32 s i v).inputs = s.inputs := by unfold writeF32; split <;> [rfl; (split <;> rfl)]
@[simp] theorem writeF32_ticks (s : State) (i : Reg) (v : Word32) : (writeF32 s i v).ticks = s.ticks := by unfold writeF32; split <;> [rfl; (split <;> rfl)]
@[simp] theorem writeF32_epoch (s : State) (i : Reg) (v : Word32) : (writeF32 s i v).epoch = s.epoch := by unfold writeF32; split <;> [rfl; (split <;> rfl)]

/-! ### setWriteSide -/

@[simp] theorem setWriteSide_gpr (blk : Block) (k : Nat) (v : Word32) (s : State) : (setWriteSide blk k v s).gpr = s.gpr := by cases blk <;> rfl
@[simp] theorem setWriteSide_hi (blk : Block) (k : Nat) (v : Word32) (s : State) : (setWriteSide blk k v s).hi = s.hi := by cases blk <;> rfl
@[simp] theorem setWriteSide_lo (blk : Block) (k : Nat) (v : Word32) (s : State) : (setWriteSide blk k v s).lo = s.lo := by cases blk <;> rfl
@[simp] theorem setWriteSide_pc (blk : Block) (k : Nat) (v : Word32) (s : State) : (setWriteSide blk k v s).pc = s.pc := by cases blk <;> rfl
@[simp] theorem setWriteSide_delay (blk : Block) (k : Nat) (v : Word32) (s : State) : (setWriteSide blk k v s).delay = s.delay := by cases blk <;> rfl
@[simp] theorem setWriteSide_fgr (blk : Block) (k : Nat) (v : Word32) (s : State) : (setWriteSide blk k v s).fgr = s.fgr := by cases blk <;> rfl
@[simp] theorem setWriteSide_fgrLowFr (blk : Block) (k : Nat) (v : Word32) (s : State) : (setWriteSide blk k v s).fgrLowFr = s.fgrLowFr := by cases blk <;> rfl
@[simp] theorem setWriteSide_fgrHighFr (blk : Block) (k : Nat) (v : Word32) (s : State) : (setWriteSide blk k v s).fgrHighFr = s.fgrHighFr := by cases blk <;> rfl
@[simp] theorem setWriteSide_fcr0 (blk : Block) (k : Nat) (v : Word32) (s : State) : (setWriteSide blk k v s).fcr0 = s.fcr0 := by cases blk <;> rfl
@[simp] theorem setWriteSide_fcr31 (blk : Block) (k : Nat) (v : Word32) (s : State) : (setWriteSide blk k v s).fcr31 = s.fcr31 := by cases blk <;> rfl
@[simp] theorem setWriteSide_llbit (blk : Block) (k : Nat) (v : Word32) (s : State) : (setWriteSide blk k v s).llbit = s.llbit := by cases blk <;> rfl
@[simp] theorem setWriteSide_cp0 (blk : Block) (k : Nat) (v : Word32) (s : State) : (setWriteSide blk k v s).cp0 = s.cp0 := by cases blk <;> rfl
@[simp] theorem setWriteSide_tlb (blk : Block) (k : Nat) (v : Word32) (s : State) : (setWriteSide blk k v s).tlb = s.tlb := by cases blk <;> rfl
@[simp] theorem setWriteSide_timerCond (blk : Block) (k : Nat) (v : Word32) (s : State) : (setWriteSide blk k v s).timerCond = s.timerCond := by cases blk <;> rfl
@[simp] theorem setWriteSide_intPins (blk : Block) (k : Nat) (v : Word32) (s : State) : (setWriteSide blk k v s).intPins = s.intPins := by cases blk <;> rfl
@[simp] theorem setWriteSide_coldResetPin (blk : Block) (k : Nat) (v : Word32) (s : State) : (setWriteSide blk k v s).coldResetPin = s.coldResetPin := by cases blk <;> rfl
@[simp] theorem setWriteSide_softResetPin (blk : Block) (k : Nat) (v : Word32) (s : State) : (setWriteSide blk k v s).softResetPin = s.softResetPin := by cases blk <;> rfl
@[simp] theorem setWriteSide_nmiPin (blk : Block) (k : Nat) (v : Word32) (s : State) : (setWriteSide blk k v s).nmiPin = s.nmiPin := by cases blk <;> rfl
@[simp] theorem setWriteSide_mem (blk : Block) (k : Nat) (v : Word32) (s : State) : (setWriteSide blk k v s).mem = s.mem := by cases blk <;> rfl
@[simp] theorem setWriteSide_rdramSize (blk : Block) (k : Nat) (v : Word32) (s : State) : (setWriteSide blk k v s).rdramSize = s.rdramSize := by cases blk <;> rfl
@[simp] theorem setWriteSide_spStatus (blk : Block) (k : Nat) (v : Word32) (s : State) : (setWriteSide blk k v s).spStatus = s.spStatus := by cases blk <;> rfl
@[simp] theorem setWriteSide_semaphore (blk : Block) (k : Nat) (v : Word32) (s : State) : (setWriteSide blk k v s).semaphore = s.semaphore := by cases blk <;> rfl
@[simp] theorem setWriteSide_latch (blk : Block) (k : Nat) (v : Word32) (s : State) : (setWriteSide blk k v s).latch = s.latch := by cases blk <;> rfl
@[simp] theorem setWriteSide_inputs (blk : Block) (k : Nat) (v : Word32) (s : State) : (setWriteSide blk k v s).inputs = s.inputs := by cases blk <;> rfl
@[simp] theorem setWriteSide_draws (blk : Block) (k : Nat) (v : Word32) (s : State) : (setWriteSide blk k v s).draws = s.draws := by cases blk <;> rfl
@[simp] theorem setWriteSide_ticks (blk : Block) (k : Nat) (v : Word32) (s : State) : (setWriteSide blk k v s).ticks = s.ticks := by cases blk <;> rfl
@[simp] theorem setWriteSide_epoch (blk : Block) (k : Nat) (v : Word32) (s : State) : (setWriteSide blk k v s).epoch = s.epoch := by cases blk <;> rfl

@[simp] theorem retire_pc (s : State) : (retire s).pc = s.delay.getD (s.pc + 4) := by
  unfold retire; split <;> simp_all

theorem writeGpr_zero (s : State) (v : Word) : writeGpr s 0 v = s := by simp [writeGpr]

/-- What a register reads after a register write; x[0] keeps reading zero. -/
theorem readGpr_writeGpr (s : State) (r q : Reg) (v : Word) :
    readGpr (writeGpr s r v) q = if q = 0 then 0 else if q = r then v else readGpr s q := by
  unfold readGpr writeGpr
  by_cases hq : q = 0#5
  · subst hq; rfl
  · by_cases hr : r = 0#5
    · subst hr; simp [hq]
    · by_cases h : q = r
      · subst h; simp [hq]
      · have : r.toNat ≠ q.toNat := fun e => h (BitVec.eq_of_toNat_eq e.symm)
        simp [hq, hr, h, this]

@[simp] theorem readGpr_retire (s : State) (q : Reg) : readGpr (retire s) q = readGpr s q := by
  simp [readGpr]

/-- A doubleword is its two halves. -/
theorem halves_append (v : Word) : v.extractLsb' 32 32 ++ v.extractLsb' 0 32 = v := by
  apply BitVec.eq_of_getLsbD_eq
  intro k hk
  simp only [BitVec.getLsbD_append, BitVec.getLsbD_extractLsb']
  by_cases h : k < 32
  · simp [h]
  · simp [h, show k - 32 < 32 by omega, show 32 + (k - 32) = k by omega]

@[simp] theorem halfView_same (f : Bool) (bits stale : Word32) : halfView f f bits stale = bits := by simp [halfView]

@[simp] theorem low_of_append (h l : Word32) : (h ++ l).extractLsb' 0 32 = l := by
  apply BitVec.eq_of_getLsbD_eq
  intro k hk
  rw [BitVec.getLsbD_extractLsb', BitVec.getLsbD_append]
  simp [hk]

@[simp] theorem high_of_append (h l : Word32) : (h ++ l).extractLsb' 32 32 = h := by
  apply BitVec.eq_of_getLsbD_eq
  intro k hk
  rw [BitVec.getLsbD_extractLsb', BitVec.getLsbD_append]
  simp [hk]

/-- A cell whose halves were written under the present FR reads as its contents. -/
theorem cell_eq (s : State) (i : Reg) (hl : s.fgrLowFr[i.toNat]'(i.isLt) = fr s)
    (hh : s.fgrHighFr[i.toNat]'(i.isLt) = fr s) : cell s i = s.fgr[i.toNat]'(i.isLt) := by
  simp only [cell, hl, hh, halfView_same, halves_append]

/-- A cell reads by its contents, its tags, FR and the tick alone. -/
theorem cell_congr (s t : State) (i : Reg) (hc : t.fgr[i.toNat]'(i.isLt) = s.fgr[i.toNat]'(i.isLt))
    (hl : t.fgrLowFr[i.toNat]'(i.isLt) = s.fgrLowFr[i.toNat]'(i.isLt))
    (hh : t.fgrHighFr[i.toNat]'(i.isLt) = s.fgrHighFr[i.toNat]'(i.isLt)) (hf : fr t = fr s) (ht : t.ticks = s.ticks) :
    cell t i = cell s i := by
  simp only [cell, hc, hl, hh, hf, ht]

@[simp] theorem fr_writeCell (s : State) (i : Reg) (v : Word) : fr (writeCell s i v) = fr s := rfl
@[simp] theorem fr_writeLow (s : State) (i : Reg) (v : Word32) : fr (writeLow s i v) = fr s := rfl
@[simp] theorem fr_writeHigh (s : State) (i : Reg) (v : Word32) : fr (writeHigh s i v) = fr s := rfl
@[simp] theorem fr_spendDraws (n : Nat) (s : State) : fr (spendDraws n s) = fr s := rfl
@[simp] theorem fr_retire (s : State) : fr (retire s) = fr s := by unfold fr; simp

@[simp] theorem cell_writeCell_same (s : State) (i : Reg) (v : Word) : cell (writeCell s i v) i = v := by
  rw [cell_eq] <;> simp

theorem cell_writeCell_other (s : State) (i j : Reg) (v : Word) (h : j ≠ i) : cell (writeCell s i v) j = cell s j := by
  have : i.toNat ≠ j.toNat := fun e => h (BitVec.eq_of_toNat_eq e.symm)
  apply cell_congr <;> simp [this]

/-- A cell after a write of its low half. -/
theorem cell_writeLow_same (s : State) (i : Reg) (v : Word32) :
    cell (writeLow s i v) i = (cell s i).extractLsb' 32 32 ++ v := by
  simp [cell, writeLow, fr]

/-- A cell after a write of its high half. -/
theorem cell_writeHigh_same (s : State) (i : Reg) (v : Word32) :
    cell (writeHigh s i v) i = v ++ (cell s i).extractLsb' 0 32 := by
  simp [cell, writeHigh, fr]

theorem cell_writeLow_other (s : State) (i j : Reg) (v : Word32) (h : j ≠ i) : cell (writeLow s i v) j = cell s j := by
  have : i.toNat ≠ j.toNat := fun e => h (BitVec.eq_of_toNat_eq e.symm)
  apply cell_congr <;> simp [this, writeLow, fr]

theorem cell_writeHigh_other (s : State) (i j : Reg) (v : Word32) (h : j ≠ i) : cell (writeHigh s i v) j = cell s j := by
  have : i.toNat ≠ j.toNat := fun e => h (BitVec.eq_of_toNat_eq e.symm)
  apply cell_congr <;> simp [this, writeHigh, fr]

@[simp] theorem cell_spendDraws (n : Nat) (s : State) (i : Reg) : cell (spendDraws n s) i = cell s i := rfl

/-- The 32-bit view reads back what was written to it. -/
theorem readF32_writeF32 (s : State) (i : Reg) (v : Word32) : readF32 (writeF32 s i v) i = v := by
  unfold readF32 writeF32
  by_cases hf : fr s = true
  · simp [hf]
  · by_cases ho : isOdd i = true
    · simp [hf, ho, cell_writeHigh_same]
    · simp [hf, ho, cell_writeLow_same]

@[simp] theorem cell_retire (s : State) (i : Reg) : cell (retire s) i = cell s i := by
  apply cell_congr <;> simp

@[simp] theorem readF32_retire (s : State) (i : Reg) : readF32 (retire s) i = readF32 s i := by
  unfold retire; split <;> rfl

end Sys2Proof.Machine
end

