-- ==== Sys2Proof/Laws/Ops.lean ====
section
/-! SUPPORT. One law per shared operation of Machine/Ops.lean: what it answers, and all that it changes. -/

namespace Sys2Proof.Machine

/-! ### Effects that can stop -/

@[simp] theorem res_ok_bind {α β : Type} (a : α) (f : α → Res β) : (Except.ok a >>= f : Res β) = f a := rfl
@[simp] theorem res_error_bind {α β : Type} (e : Stop) (f : α → Res β) :
    ((Except.error e : Res α) >>= f : Res β) = .error e := rfl
@[simp] theorem res_pure {α : Type} (a : α) : (pure a : Res α) = .ok a := rfl
@[simp] theorem require_true (stop : Stop) : require true stop = .ok () := rfl
@[simp] theorem require_false (stop : Stop) : require false stop = .error stop := rfl
@[simp] theorem raise_eq {α : Type} (e : Exc) : (raise e : Res α) = .error (.exc e) := rfl
@[simp] theorem refuse_eq {α : Type} (q : Refusal) : (refuse q : Res α) = .error (.refused q) := rfl

/-- The steps of a computation that answers. -/
theorem res_bind_ok {α β : Type} (x : Res α) (f : α → Res β) (b : β) :
    (x >>= f) = .ok b ↔ ∃ a, x = .ok a ∧ f a = .ok b := by
  cases x with
  | ok a => simp
  | error e => simp

/-- The steps of a computation that stops. -/
theorem res_bind_error {α β : Type} (x : Res α) (f : α → Res β) (e : Stop) :
    (x >>= f) = .error e ↔ x = .error e ∨ ∃ a, x = .ok a ∧ f a = .error e := by
  cases x with
  | ok a => simp
  | error e' => simp

theorem require_ok (c : Bool) (stop : Stop) : require c stop = .ok () ↔ c = true := by cases c <;> simp

/-! ### Ending an instruction -/

@[simp] theorem finish_ok (s t : State) : finish s (.ok t) = .next t := rfl
@[simp] theorem finish_exc (s : State) (e : Exc) : finish s (.error (.exc e)) = .next (takeException e s) := rfl
@[simp] theorem finish_fault (s : State) (f : Fault) : finish s (.error (.fault f)) = .fault f := rfl
@[simp] theorem finish_refused (s : State) (q : Refusal) : finish s (.error (.refused q)) = .refused q := rfl
@[simp] theorem complete_ok (s t : State) : complete s (.ok t) = .next (retire t) := rfl
@[simp] theorem complete_exc (s : State) (e : Exc) : complete s (.error (.exc e)) = .next (takeException e s) := rfl
@[simp] theorem complete_fault (s : State) (f : Fault) : complete s (.error (.fault f)) = .fault f := rfl
@[simp] theorem complete_refused (s : State) (q : Refusal) : complete s (.error (.refused q)) = .refused q := rfl

/-- The two ways an instruction can answer a next state. -/
theorem finish_next (s t : State) (r : Res State) :
    finish s r = .next t ↔ r = .ok t ∨ ∃ e, r = .error (.exc e) ∧ t = takeException e s := by
  cases r with
  | ok u => simp
  | error e => cases e <;> simp [eq_comm]

/-- The two ways an instruction that is no branch can answer a next state. -/
theorem complete_next (s t : State) (r : Res State) :
    complete s r = .next t ↔ (∃ u, r = .ok u ∧ t = retire u) ∨ ∃ e, r = .error (.exc e) ∧ t = takeException e s := by
  cases r with
  | ok u => simp [eq_comm]
  | error e => cases e <;> simp [eq_comm]

/-! ### Retiring and branching -/

theorem retire_nextPc (s : State) : (retire s).pc = nextPc s := by
  unfold nextPc; cases h : s.delay <;> simp [h]

/-- Retiring changes PC and Delay only. -/
theorem retire_rest (s : State) (pc : Word) (delay : Option Word) :
    { retire s with pc := pc, delay := delay } = { s with pc := pc, delay := delay } := by
  unfold retire; split <;> rfl

theorem branchTo_ok (target : Word) (s : State) (h : s.delay = none) :
    branchTo target s = .ok { s with pc := s.pc + 4, delay := some target } := by simp [branchTo, h]

theorem branchTo_slot (target : Word) (s : State) (h : s.delay ≠ none) :
    branchTo target s = .error (.refused .branchInDelaySlot) := by
  cases hd : s.delay with
  | none => exact absurd hd h
  | some d => simp [branchTo, hd]

theorem skipSlot_ok (s : State) (h : s.delay = none) : skipSlot s = .ok { s with pc := s.pc + 8 } := by
  simp [skipSlot, h]

theorem skipSlot_slot (s : State) (h : s.delay ≠ none) : skipSlot s = .error (.refused .branchInDelaySlot) := by
  cases hd : s.delay with
  | none => exact absurd hd h
  | some d => simp [skipSlot, hd]

/-! ### Modes -/

theorem currentMode_eq (s : State) (m : Mode) (h : modeOf s.cp0.status = some m) : currentMode s = .ok m := by
  simp [currentMode, h]

theorem require64_ok (s : State) (m : Mode) (h : modeOf s.cp0.status = some m) (h64 : ops64 s.cp0.status m = true) :
    require64 s = .ok () := by simp [require64, currentMode, h, h64]

theorem require64_error (s : State) (m : Mode) (h : modeOf s.cp0.status = some m) (h64 : ops64 s.cp0.status m = false) :
    require64 s = .error (.exc .reservedInstruction) := by simp [require64, currentMode, h, h64]

theorem requireCop0_ok (s : State) (m : Mode) (h : modeOf s.cp0.status = some m) (hu : cop0Usable s.cp0.status m = true) :
    requireCop0 s = .ok () := by simp [requireCop0, currentMode, h, hu]

theorem requireCop0_error (s : State) (m : Mode) (h : modeOf s.cp0.status = some m)
    (hu : cop0Usable s.cp0.status m = false) : requireCop0 s = .error (.exc (.coprocessorUnusable 0)) := by
  simp [requireCop0, currentMode, h, hu]

theorem requireCop1_ok (s : State) (h : statusCu1 s.cp0.status = true) : requireCop1 s = .ok () := by
  simp [requireCop1, h]

theorem requireCop1_error (s : State) (h : statusCu1 s.cp0.status = false) :
    requireCop1 s = .error (.exc (.coprocessorUnusable 1)) := by simp [requireCop1, h]

/-! ### Frames of the plain effects -/

/-- Writing a register and retiring. -/
theorem onlyGpr_writeGpr (s : State) (r : Reg) (v : Word) : OnlyGpr r v s (retire (writeGpr s r v)) where
  value := by rw [readGpr_retire, readGpr_writeGpr]; split <;> simp
  others q hq := by
    rw [readGpr_retire, readGpr_writeGpr]
    by_cases h : q = 0#5
    · subst h; rfl
    · simp [h, hq]
  pc := by rw [retire_nextPc]; simp [nextPc]
  delay := by simp
  memory a := by simp [memByte]
  rest := by
    have := retire_rest (writeGpr s r v) s.pc s.delay
    calc { retire (writeGpr s r v) with gpr := s.gpr, pc := s.pc, delay := s.delay }
        = { { retire (writeGpr s r v) with pc := s.pc, delay := s.delay } with gpr := s.gpr } := rfl
      _ = s := by rw [this]; unfold writeGpr; split <;> rfl

theorem onlyHiLo_writeHiLo (s : State) (h l : Word) : OnlyHiLo h l s (retire (writeHiLo s h l)) where
  hi := by simp
  lo := by simp
  pc := by rw [retire_nextPc]; rfl
  delay := by simp
  memory a := by simp [memByte]
  rest := by unfold retire; split <;> rfl

theorem onlyCell_writeCell (s : State) (i : Reg) (v : Word) : OnlyCell i v s (retire (writeCell s i v)) where
  value := by simp
  others j h := by
    have : i.toNat ≠ j.toNat := fun e => h (BitVec.eq_of_toNat_eq e.symm)
    constructor <;> simp [cell_writeCell_other s i j v h, this]
  pc := by rw [retire_nextPc]; rfl
  delay := by simp
  memory a := by simp [memByte]
  rest := by unfold retire; split <;> rfl

theorem sameCell_of_kept {s t : State} {j : Reg} (hb : t.fgr[j.toNat]'(j.isLt) = s.fgr[j.toNat]'(j.isLt))
    (hl : t.fgrLowFr[j.toNat]'(j.isLt) = s.fgrLowFr[j.toNat]'(j.isLt))
    (hh : t.fgrHighFr[j.toNat]'(j.isLt) = s.fgrHighFr[j.toNat]'(j.isLt)) (hf : fr t = fr s) (ht : t.ticks = s.ticks) :
    SameCell j s t := ⟨cell_congr s t j hb hl hh hf ht, hb, hl, hh⟩

theorem evenReg_of_even : ∀ i : Reg, isOdd i = false → evenReg i = i := by decide

/-- All that a write of the 32-bit view does. -/
theorem f32Written_writeF32 (s : State) (i : Reg) (v : Word32) : F32Written i v s (writeF32 s i v) where
  value := readF32_writeF32 s i v
  others j h := by
    have hn : (homeOf s i).toNat ≠ j.toNat := fun e => h (BitVec.eq_of_toNat_eq e.symm)
    unfold homeOf at hn
    unfold writeF32
    split at hn
    · rename_i hf
      simp only [hf, if_true]
      apply sameCell_of_kept <;> simp [hn]
    · rename_i hf
      simp only [hf]
      by_cases ho : isOdd i = true
      · simp only [ho, if_true]
        apply sameCell_of_kept <;> simp [hn, writeHigh, fr]
      · rw [evenReg_of_even i (by simpa using ho)] at hn
        simp only [ho]
        apply sameCell_of_kept <;> simp [hn, writeLow, fr]
  lowKept hf ho := by
    unfold writeF32
    simp only [hf, ho, Bool.false_eq_true, if_false, if_true]
    exact ⟨by rw [cell_writeHigh_same, low_of_append], by simp [writeHigh], by simp [writeHigh]⟩
  highKept hf ho := by
    unfold writeF32
    simp only [hf, ho, Bool.false_eq_true, if_false]
    exact ⟨by rw [cell_writeLow_same, high_of_append], by simp [writeLow], by simp [writeLow]⟩

/-- Retiring touches no floating-point cell. -/
theorem f32Written_retire {i : Reg} {v : Word32} {s u : State} (h : F32Written i v s u) :
    F32Written i v s (retire u) where
  value := by simpa using h.value
  others j hj := by
    obtain ⟨h1, h2, h3, h4⟩ := h.others j hj
    constructor <;> simpa
  lowKept hf ho := by
    obtain ⟨h1, h2, h3⟩ := h.lowKept hf ho
    constructor <;> simpa
  highKept hf ho := by
    obtain ⟨h1, h2, h3⟩ := h.highKept hf ho
    constructor <;> simpa

/-- Writing a 32-bit view and retiring. -/
theorem onlyF32_writeF32 (s : State) (i : Reg) (v : Word32) : OnlyF32 i v s (retire (writeF32 s i v)) where
  cells := f32Written_retire (f32Written_writeF32 s i v)
  pc := by rw [retire_nextPc]; simp [nextPc]
  delay := by simp
  memory a := by simp [memByte]
  rest := by unfold retire; split <;> (unfold writeF32; split <;> [rfl; (split <;> rfl)])

theorem onlyControl_retire (s : State) : OnlyControl (nextPc s) none s (retire s) where
  pc := retire_nextPc s
  delay := by simp
  memory a := by simp [memByte]
  rest := by unfold retire; split <;> rfl

/-! ### Taking an exception -/

/-- All that the entry of an exception does. -/
theorem enters_takeException (e : Exc) (s : State) : Enters e s (takeException e s) where
  code := by cases e <;> rfl
  exl := by cases e <;> (unfold takeException saveEpc; split <;> rfl)
  pc := by cases e <;> rfl
  delay := by cases e <;> rfl
  saved h := by
    cases e <;> simp [takeException, recordFault, recordCause, saveEpc, h, recordTlb, recordAddress, spendDraws]
  kept h := by
    cases e <;> simp [takeException, recordFault, recordCause, saveEpc, h, recordTlb, recordAddress, spendDraws]
  lines := by cases e <;> (unfold takeException saveEpc; split <;> rfl)
  unit u h := by subst h; rfl
  addresses h := by
    cases e <;> simp [recordsAddress] at h <;> (unfold takeException saveEpc; split <;> exact ⟨rfl, rfl, rfl, rfl⟩)
  otherCp0 := by cases e <;> (unfold takeException saveEpc; split <;> rfl)
  rest := by cases e <;> (unfold takeException saveEpc; split <;> rfl)

end Sys2Proof.Machine
end

