-- ==== Sys2Proof/Laws/Bus.lean ====
section
/-! SUPPORT. The laws of the bus: what it does on plain memory, and what a read and a write can change at all. -/

namespace Sys2Proof.Machine

/-! ### The device table -/

/-- The rows of the device table, as one chain of ranges. -/
theorem resolve_eq (p : PAddr) : resolve p =
    (deviceTable.find? (claims p.toNat)).map fun row => (row.slot, p.toNat - row.first) := rfl

/-- A row that answers for an address claims it. -/
theorem resolve_claims {p : PAddr} {slot : Slot} {off : Nat} (h : resolve p = some (slot, off)) :
    ∃ row ∈ deviceTable, row.slot = slot ∧ row.first ≤ p.toNat ∧ p.toNat ≤ row.last ∧ off = p.toNat - row.first := by
  rw [resolve_eq, Option.map_eq_some_iff] at h
  obtain ⟨row, hf, he⟩ := h
  have hc := List.find?_some hf
  simp only [claims, Bool.and_eq_true, decide_eq_true_eq] at hc
  cases he
  exact ⟨row, List.mem_of_find?_eq_some hf, rfl, hc.1, hc.2, rfl⟩

/-- Where a slot lies. -/
theorem resolve_range {p : PAddr} {slot : Slot} {off : Nat} (h : resolve p = some (slot, off)) :
    match slot with
    | .rdram => p.toNat ≤ 0x03EFFFFF ∧ off = p.toNat
    | .spDmem => 0x04000000 ≤ p.toNat ∧ p.toNat ≤ 0x04000FFF
    | .spImem => 0x04001000 ≤ p.toNat ∧ p.toNat ≤ 0x04001FFF
    | .pifRom => 0x1FC00000 ≤ p.toNat ∧ p.toNat ≤ 0x1FC007BF
    | .pifRam => 0x1FC007C0 ≤ p.toNat ∧ p.toNat ≤ 0x1FC007FF
    | .cartRom => 0x10000000 ≤ p.toNat ∧ p.toNat ≤ 0x1FBFFFFF
    | _ => True := by
  obtain ⟨row, hm, hs, h1, h2, h3⟩ := resolve_claims h
  simp only [deviceTable, List.mem_cons, List.not_mem_nil, or_false] at hm
  rcases hm with e | e | e | e | e | e | e | e | e | e | e | e | e | e | e | e | e <;>
    (subst e; subst hs; simp_all)

/-! ### Plain bytes -/

theorem readByte_plain (p : PAddr) (s : State) (h : plainRead p s = true) : readByte p s = .ok (memByte p.toNat s, s) := by
  unfold plainRead at h
  unfold readByte
  split at h <;> simp_all

theorem writeByte_plain (p : PAddr) (b : Byte) (s : State) (h : plainWrite p s = true) :
    writeByte p b s = .ok (setMemByte p.toNat b s) := by
  unfold plainWrite at h
  unfold writeByte
  split at h <;> simp_all

/-- A plain byte lies below the last address, and no register slot claims it. -/
theorem plainRead_range (p : PAddr) (s : State) (h : plainRead p s = true) :
    p.toNat ≤ 0x04001FFF ∨ (0x1FC00000 ≤ p.toNat ∧ p.toNat ≤ 0x1FC007FF) := by
  unfold plainRead at h
  split at h
  all_goals first
    | (rename_i e; have := resolve_range e; simp at this; omega)
    | simp at h

theorem plainWrite_plainRead (p : PAddr) (s : State) (h : plainWrite p s = true) : plainRead p s = true := by
  unfold plainWrite at h
  unfold plainRead
  split at h <;> simp_all

@[simp] theorem plainWrite_setMemByte (p : PAddr) (a : Nat) (b : Byte) (s : State) :
    plainWrite p (setMemByte a b s) = plainWrite p s := rfl

theorem plain_next (p : PAddr) (s : State) (h : plainRead p s = true) : (p + 1).toNat = p.toNat + 1 := by
  have := plainRead_range p s h
  rw [BitVec.toNat_add]
  simp only [BitVec.ofNat_eq_ofNat, BitVec.toNat_ofNat]
  omega

/-- Reading plain bytes. -/
theorem readBytes_plain (n : Nat) (p : PAddr) (s : State)
    (h : ∀ k < n, plainRead (p + BitVec.ofNat 32 k) s = true) : readBytes n p s = .ok (bytesAt p n s, s) := by
  induction n generalizing p with
  | zero => rfl
  | succ n ih =>
    have h0 : plainRead p s = true := by simpa using h 0 (by omega)
    have hn := plain_next p s h0
    have hs : ∀ k < n, plainRead (p + 1 + BitVec.ofNat 32 k) s = true := by
      intro k hk
      have := h (k + 1) (by omega)
      rwa [show p + BitVec.ofNat 32 (k + 1) = p + 1 + BitVec.ofNat 32 k by
        rw [BitVec.add_assoc, BitVec.ofNat_add, BitVec.add_comm (BitVec.ofNat 32 k)]; rfl] at this
    simp only [readBytes, readByte_plain p s h0, ih (p + 1) hs, res_ok_bind, res_pure]
    congr 2
    simp only [bytesAt, hn, List.range_succ_eq_map, List.map_cons, List.map_map]
    congr 1
    apply List.map_congr_left
    intro k _
    simp only [Function.comp]
    congr 1
    omega

/-- Plain bytes do not wrap around the end of the address space. -/
theorem plain_no_wrap (n k : Nat) (p : PAddr) (s : State)
    (h : ∀ k < n, plainRead (p + BitVec.ofNat 32 k) s = true) (hk : k < n) :
    (p + BitVec.ofNat 32 k).toNat = p.toNat + k := by
  induction k with
  | zero => simp
  | succ k ih =>
    have := ih (by omega)
    have h1 := plain_next _ s (h k (by omega))
    rw [show p + BitVec.ofNat 32 (k + 1) = p + BitVec.ofNat 32 k + 1 by
      rw [BitVec.ofNat_add, ← BitVec.add_assoc]; rfl, h1, this]
    rfl

/-- Plain bytes lie beside SP_SEMAPHORE. -/
theorem plain_no_semaphore (n : Nat) (p : PAddr) (s : State) (hn : 0 < n)
    (h : ∀ k < n, plainRead (p + BitVec.ofNat 32 k) s = true) : touches p.toNat n 0x0404001C 4 = false := by
  by_contra hc
  simp only [touches, Bool.not_eq_false, Bool.and_eq_true, decide_eq_true_eq] at hc
  obtain ⟨h1, h2⟩ := hc
  have key : ∀ j, 0x0404001C ≤ p.toNat + j → p.toNat + j ≤ 0x0404001F → j < n → False := by
    intro j a b hj
    have := plainRead_range _ s (h j hj)
    rw [plain_no_wrap n j p s h hj] at this
    omega
  by_cases hp : p.toNat < 0x0404001C
  · exact key (0x0404001C - p.toNat) (by omega) (by omega) (by omega)
  · exact key 0 (by omega) (by omega) (by omega)

/-- A bus read of plain memory. -/
theorem busRead_plain (p : PAddr) (n : Nat) (s : State) (hn : 0 < n) (h : PlainRead p n s) :
    busRead p n s = .ok (bytesAt p n s, s) := by
  simp only [busRead, readBytes_plain n p s h, res_ok_bind, res_pure, takeSemaphore, plain_no_semaphore n p s hn h]
  rfl

theorem storeBytes_plain (bytes : List Byte) (p : PAddr) (s : State)
    (h : ∀ k < bytes.length, plainWrite (p + BitVec.ofNat 32 k) s = true) :
    storeBytes bytes p s = .ok (setMemBytes p.toNat bytes s) := by
  induction bytes generalizing p s with
  | nil => rfl
  | cons b rest ih =>
    have h0 : plainWrite p s = true := by simpa using h 0 (by simp)
    have hn := plain_next p s (plainWrite_plainRead p s h0)
    have hs : ∀ k < rest.length, plainWrite (p + 1 + BitVec.ofNat 32 k) (setMemByte p.toNat b s) = true := by
      intro k hk
      have := h (k + 1) (by simpa using hk)
      rwa [show p + BitVec.ofNat 32 (k + 1) = p + 1 + BitVec.ofNat 32 k by
        rw [BitVec.add_assoc, BitVec.ofNat_add, BitVec.add_comm (BitVec.ofNat 32 k)]; rfl] at this
    simp only [storeBytes, writeByte_plain p b s h0, res_ok_bind, ih _ _ hs, hn, setMemBytes]

/-- A bus write of plain memory that sets off no side effect. -/
theorem busWrite_plain (p : PAddr) (bytes : List Byte) (s : State) (h : PlainWrite p bytes.length s) :
    busWrite p bytes s = .ok (setMemBytes p.toNat bytes s) := by
  simp only [busWrite, storeBytes_plain bytes p s h.1, res_ok_bind, fireEffects, h.2]
  rfl

/-- Storing plain bytes and moving on changes those bytes and nothing else. -/
theorem onlyMemory_setMemBytes (a : Nat) (bytes : List Byte) (s : State) :
    OnlyMemory a bytes s (retire (setMemBytes a bytes s)) where
  stored k h := by
    have := memByte_setMemBytes_same a bytes s k h
    simpa [memByte] using this
  others c h := by
    have := memByte_setMemBytes_other a c bytes s h
    simpa [memByte] using this
  pc := by rw [retire_nextPc, setMemBytes_eq]; rfl
  delay := by simp
  rest := by rw [setMemBytes_eq]; unfold retire; split <;> rfl

/-! ### What a bus read can change: free values spent, and SP_SEMAPHORE -/

/-- t is s but for the position in the free values. -/
def SameButDraws (s t : State) : Prop := { t with draws := s.draws } = s

theorem SameButDraws.trans {s t u : State} (h1 : SameButDraws s t) (h2 : SameButDraws t u) : SameButDraws s u := by
  unfold SameButDraws at *
  rw [← h1, ← h2]

theorem readByte_frame (p : PAddr) (s t : State) (b : Byte) (h : readByte p s = .ok (b, t)) : SameButDraws s t := by
  unfold readByte at h
  split at h
  · simp [noDevice] at h
  · split at h
    all_goals (try split at h)
    all_goals first
      | (simp [noDevice] at h; done)
      | (simp only [Except.ok.injEq, Prod.mk.injEq, drawByte] at h; obtain ⟨-, rfl⟩ := h; rfl)
      | (simp only [Except.ok.injEq, readRegByte] at h
         split at h <;> (simp only [Prod.mk.injEq] at h; obtain ⟨-, rfl⟩ := h; rfl))

theorem readBytes_frame (n : Nat) (p : PAddr) (s t : State) (bytes : List Byte) (h : readBytes n p s = .ok (bytes, t)) :
    SameButDraws s t ∧ bytes.length = n := by
  induction n generalizing p s bytes with
  | zero => simp only [readBytes, Except.ok.injEq, Prod.mk.injEq] at h; obtain ⟨rfl, rfl⟩ := h; exact ⟨rfl, rfl⟩
  | succ n ih =>
    simp only [readBytes, res_bind_ok, Prod.exists, res_pure, Except.ok.injEq, Prod.mk.injEq] at h
    obtain ⟨b, u, hb, rest, v, hr, rfl, rfl⟩ := h
    have h1 := readByte_frame p s u b hb
    obtain ⟨h2, hl⟩ := ih _ _ _ hr
    exact ⟨h1.trans h2, by simp [hl]⟩

/-- All that a bus read can change. -/
theorem busRead_frame (p : PAddr) (n : Nat) (s t : State) (bytes : List Byte) (h : busRead p n s = .ok (bytes, t)) :
    { t with draws := s.draws, semaphore := s.semaphore } = s ∧ bytes.length = n ∧
      t.semaphore = (s.semaphore || touches p.toNat n 0x0404001C 4) := by
  simp only [busRead, res_bind_ok, Prod.exists, res_pure, Except.ok.injEq, Prod.mk.injEq] at h
  obtain ⟨bs, u, hr, rfl, rfl⟩ := h
  obtain ⟨h1, hl⟩ := readBytes_frame n p s u bs hr
  have hs : u.semaphore = s.semaphore := by rw [← h1]
  unfold SameButDraws at h1
  refine ⟨?_, hl, ?_⟩
  · unfold takeSemaphore
    split
    · exact (by rw [← h1])
    · exact (by rw [← h1])
  · unfold takeSemaphore
    split <;> simp_all

/-! ### What a bus write can change: memory, the register blocks and the latches -/

/-- t is s but for memory, the devices and the position in the free values: the CPU, the TLB and the inputs are as they
were. -/
def SameCpu (s t : State) : Prop :=
  { t with
    mem := s.mem, viRegs := s.viRegs, piRegs := s.piRegs, siRegs := s.siRegs, spRegs := s.spRegs
    spPcRegs := s.spPcRegs, spStatus := s.spStatus, semaphore := s.semaphore, latch := s.latch, draws := s.draws } = s

theorem SameCpu.refl (s : State) : SameCpu s s := rfl

theorem SameCpu.trans {s t u : State} (h1 : SameCpu s t) (h2 : SameCpu t u) : SameCpu s u := by
  unfold SameCpu at *
  rw [← h1, ← h2]

theorem setWriteSide_sameCpu (blk : Block) (k : Nat) (v : Word32) (s : State) : SameCpu s (setWriteSide blk k v s) := by
  cases blk <;> rfl

theorem setMemBytes_sameCpu (a : Nat) (bytes : List Byte) (s : State) : SameCpu s (setMemBytes a bytes s) := by
  rw [setMemBytes_eq]; rfl

theorem writeByte_sameCpu (p : PAddr) (b : Byte) (s t : State) (h : writeByte p b s = .ok t) : SameCpu s t := by
  unfold writeByte at h
  split at h
  · simp [noDevice] at h
  · split at h
    all_goals (try split at h)
    all_goals first
      | (simp [noDevice] at h; done)
      | (simp only [Except.ok.injEq] at h; subst h; rfl)

theorem storeBytes_sameCpu (bytes : List Byte) (p : PAddr) (s t : State) (h : storeBytes bytes p s = .ok t) :
    SameCpu s t := by
  induction bytes generalizing p s with
  | nil => simp only [storeBytes, Except.ok.injEq] at h; subst h; rfl
  | cons b rest ih =>
    simp only [storeBytes, res_bind_ok] at h
    obtain ⟨u, hu, h⟩ := h
    exact (writeByte_sameCpu p b s u hu).trans (ih _ _ h)

theorem joyBusDispatch_sameCpu (ch : Nat) (cmd : Byte) (resp rl : Nat) (s : State) :
    SameCpu s (joyBusDispatch ch cmd resp rl s) := by
  unfold joyBusDispatch
  split
  · exact setMemBytes_sameCpu _ _ _
  · split
    · split
      · rw [setMemBytes_eq]; rfl
      · rfl
    · rfl

theorem joyBusScan_sameCpu (left p : Nat) (s : State) : SameCpu s (joyBusScan left p s) := by
  induction left generalizing p s with
  | zero => rfl
  | succ left ih =>
    unfold joyBusScan
    split
    · rfl
    · simp only
      split
      · rfl
      · split
        · exact ih _ _
        · split
          · exact ih _ _
          · split
            · rfl
            · split
              · rfl
              · split
                · rfl
                · exact (joyBusDispatch_sameCpu _ _ _ _ _).trans (ih _ _)

theorem pifProcess_sameCpu (s t : State) (h : pifProcess s = .ok t) : SameCpu s t := by
  unfold pifProcess at h
  simp only [refuse_eq] at h
  split at h
  · simp at h
  · split at h
    · simp only [Except.ok.injEq] at h; subst h; exact setMemBytes_sameCpu _ _ _
    · split at h <;> (simp only [Except.ok.injEq] at h; subst h)
      · exact joyBusScan_sameCpu _ _ _
      · rfl

theorem withCopied_ok {α : Type} (n : Nat) (l : State) (r : Res α) (a : α) (h : withCopied n l r = .ok a) :
    r = .ok a := by
  unfold withCopied at h
  split at h
  · simp at h
  · exact h

theorem copyBytes_sameCpu (left copied : Nat) (src dst : PAddr) (s t : State)
    (h : copyBytes left copied src dst s = .ok t) : SameCpu s t := by
  induction left generalizing copied src dst s with
  | zero => simp only [copyBytes, Except.ok.injEq] at h; subst h; rfl
  | succ left ih =>
    simp only [copyBytes, res_bind_ok, Prod.exists] at h
    obtain ⟨bytes, u, hu, v, hv, h⟩ := h
    have h1 := (busRead_frame src 1 s u bytes (withCopied_ok _ _ _ _ hu)).1
    have h2 : SameCpu s u := by unfold SameCpu; exact (by rw [← h1])
    exact (h2.trans (storeBytes_sameCpu _ _ _ _ (withCopied_ok _ _ _ _ hv))).trans (ih _ _ _ _ h)

/-- The one way a byte read can stop. -/
theorem readByte_stop (p : PAddr) (s : State) (e : Stop) (h : readByte p s = .error e) : e = .fault (.busFault p) := by
  unfold readByte at h
  split at h
  · simpa [noDevice] using h.symm
  · split at h
    all_goals (try split at h)
    all_goals first
      | (simp at h; done)
      | simpa [noDevice] using h.symm

/-- The one way a byte write can stop. -/
theorem writeByte_stop (p : PAddr) (b : Byte) (s : State) (e : Stop) (h : writeByte p b s = .error e) :
    e = .fault (.busFault p) := by
  unfold writeByte at h
  split at h
  · simpa [noDevice] using h.symm
  · split at h
    all_goals (try split at h)
    all_goals first
      | (simp at h; done)
      | simpa [noDevice] using h.symm

/-- The one way a copy can stop: at the byte `n` of those it had to copy, with the state the earlier bytes leave. -/
theorem copyBytes_stop (left copied : Nat) (src dst : PAddr) (s : State) (e : Stop)
    (h : copyBytes left copied src dst s = .error e) :
    ∃ k p t, k < left ∧ e = .fault (.dmaBusFault p (copied + k) t) ∧
      (p = src + BitVec.ofNat 32 k ∨ p = dst + BitVec.ofNat 32 k) ∧ SameCpu s t := by
  induction left generalizing copied src dst s with
  | zero => simp [copyBytes] at h
  | succ left ih =>
    simp only [copyBytes, res_bind_error] at h
    rcases h with h | ⟨⟨bytes, u⟩, hu, h⟩
    · cases hb : busRead src 1 s with
      | ok a => simp [hb, withCopied] at h
      | error e' =>
        have he : e' = .fault (.busFault src) := by
          simp only [busRead, readBytes, res_bind_error, res_pure] at hb
          rcases hb with (hr | ⟨a, -, hr⟩) | ⟨a, -, hr⟩
          · exact readByte_stop _ _ _ hr
          · rcases hr with hr | ⟨c, -, hr⟩ <;> simp at hr
          · simp at hr
        subst he
        simp only [hb, withCopied, Except.error.injEq] at h
        exact ⟨0, src, s, by omega, h.symm, .inl (by simp), SameCpu.refl s⟩
    · have h1 := (busRead_frame src 1 s u bytes (withCopied_ok _ _ _ _ hu))
      have h2 : SameCpu s u := by unfold SameCpu; exact (by rw [← h1.1])
      rcases h with h | ⟨v, hv, h⟩
      · cases hb : storeBytes bytes dst u with
        | ok a => simp [hb, withCopied] at h
        | error e' =>
          have he : e' = .fault (.busFault dst) := by
            obtain ⟨b, rfl⟩ := List.length_eq_one_iff.mp h1.2.1
            simp only [storeBytes, res_bind_error] at hb
            rcases hb with hr | ⟨a, -, hr⟩
            · exact writeByte_stop _ _ _ _ hr
            · simp at hr
          subst he
          simp only [hb, withCopied, Except.error.injEq] at h
          exact ⟨0, dst, u, by omega, h.symm, .inr (by simp), h2⟩
      · obtain ⟨k, p, t, hk, he, hp, ht⟩ := ih _ _ _ _ h
        have h3 := storeBytes_sameCpu _ _ _ _ (withCopied_ok _ _ _ _ hv)
        refine ⟨k + 1, p, t, by omega, by rw [he]; congr 2; omega, ?_, (h2.trans h3).trans ht⟩
        rcases hp with rfl | rfl
        · left; rw [BitVec.add_assoc, BitVec.add_comm 1, BitVec.ofNat_add]; rfl
        · right; rw [BitVec.add_assoc, BitVec.add_comm 1, BitVec.ofNat_add]; rfl

theorem scrambleStaged_sameCpu (blk : Block) (slots : List Nat) (s : State) : SameCpu s (scrambleStaged blk slots s) := by
  unfold scrambleStaged
  induction slots generalizing s with
  | nil => rfl
  | cons k rest ih =>
    have h1 : SameCpu s (spendDraws 1 (setWriteSide blk k ((drawn s).extractLsb' 0 32) s)) := by cases blk <;> rfl
    exact h1.trans (ih _)

theorem foldlM_sameCpu {α : Type} (f : State → α → Res State) (hf : ∀ s a t, f s a = .ok t → SameCpu s t)
    (l : List α) (s t : State) (h : l.foldlM f s = .ok t) : SameCpu s t := by
  induction l generalizing s with
  | nil => simp only [List.foldlM_nil, res_pure, Except.ok.injEq] at h; subst h; rfl
  | cons a rest ih =>
    simp only [List.foldlM_cons, res_bind_ok] at h
    obtain ⟨u, hu, h⟩ := h
    exact (hf s a u hu).trans (ih u h)

theorem fireEffect_sameCpu (fuel : Nat) (e : Effect) (s t : State) (h : fireEffect fuel e s = .ok t) : SameCpu s t := by
  induction fuel generalizing e s t with
  | zero => simp [fireEffect] at h
  | succ fuel ih =>
    unfold fireEffect at h
    cases e <;> simp only [res_bind_ok, res_pure, Except.ok.injEq] at h
    case spStatus => subst h; rfl
    case spSemaphore => subst h; rfl
    case pifCommand => exact pifProcess_sameCpu s t h
    all_goals
      obtain ⟨tr, -, u, hu, v, hv, rfl⟩ := h
      exact ((copyBytes_sameCpu _ _ _ _ _ _ hu).trans
        (foldlM_sameCpu _ (fun a b c hc => ih b a c hc) _ _ _ hv)).trans (scrambleStaged_sameCpu _ _ _)

/-- All that a bus write can change. -/
theorem busWrite_sameCpu (p : PAddr) (bytes : List Byte) (s t : State) (h : busWrite p bytes s = .ok t) : SameCpu s t := by
  simp only [busWrite, res_bind_ok, fireEffects] at h
  obtain ⟨u, hu, h⟩ := h
  exact (storeBytes_sameCpu _ _ _ _ hu).trans (foldlM_sameCpu _ (fun a b c hc => fireEffect_sameCpu _ b a c hc) _ _ _ h)

end Sys2Proof.Machine
end

