-- ==== Sys2Proof/Laws/Decode.lean ====
section
/-! SUPPORT. One lemma per field of each encoding format: reading a field of a built word gives the field back.
These are what the round trip of decoding and encoding is proved from. -/

namespace Sys2Proof

@[simp] theorem opF_wordI (op : BitVec 6) (rs rt : BitVec 5) (imm : BitVec 16) :
    opF (wordI op rs rt imm) = op := by
  simp only [opF, wordI]
  apply BitVec.eq_of_getLsbD_eq
  intro k hk
  simp only [BitVec.getLsbD_extractLsb', BitVec.getLsbD_cast, BitVec.getLsbD_append, hk, decide_true, Bool.true_and]
  grind

@[simp] theorem rsF_wordI (op : BitVec 6) (rs rt : BitVec 5) (imm : BitVec 16) :
    rsF (wordI op rs rt imm) = rs := by
  simp only [rsF, wordI]
  apply BitVec.eq_of_getLsbD_eq
  intro k hk
  simp only [BitVec.getLsbD_extractLsb', BitVec.getLsbD_cast, BitVec.getLsbD_append, hk, decide_true, Bool.true_and]
  grind

@[simp] theorem rtF_wordI (op : BitVec 6) (rs rt : BitVec 5) (imm : BitVec 16) :
    rtF (wordI op rs rt imm) = rt := by
  simp only [rtF, wordI]
  apply BitVec.eq_of_getLsbD_eq
  intro k hk
  simp only [BitVec.getLsbD_extractLsb', BitVec.getLsbD_cast, BitVec.getLsbD_append, hk, decide_true, Bool.true_and]
  grind

@[simp] theorem immF_wordI (op : BitVec 6) (rs rt : BitVec 5) (imm : BitVec 16) :
    immF (wordI op rs rt imm) = imm := by
  simp only [immF, wordI]
  apply BitVec.eq_of_getLsbD_eq
  intro k hk
  simp only [BitVec.getLsbD_extractLsb', BitVec.getLsbD_cast, BitVec.getLsbD_append, hk, decide_true, Bool.true_and]
  grind

@[simp] theorem opF_wordR (op : BitVec 6) (rs rt rd sa : BitVec 5) (fn : BitVec 6) :
    opF (wordR op rs rt rd sa fn) = op := by
  simp only [opF, wordR]
  apply BitVec.eq_of_getLsbD_eq
  intro k hk
  simp only [BitVec.getLsbD_extractLsb', BitVec.getLsbD_cast, BitVec.getLsbD_append, hk, decide_true, Bool.true_and]
  grind

@[simp] theorem rsF_wordR (op : BitVec 6) (rs rt rd sa : BitVec 5) (fn : BitVec 6) :
    rsF (wordR op rs rt rd sa fn) = rs := by
  simp only [rsF, wordR]
  apply BitVec.eq_of_getLsbD_eq
  intro k hk
  simp only [BitVec.getLsbD_extractLsb', BitVec.getLsbD_cast, BitVec.getLsbD_append, hk, decide_true, Bool.true_and]
  grind

@[simp] theorem rtF_wordR (op : BitVec 6) (rs rt rd sa : BitVec 5) (fn : BitVec 6) :
    rtF (wordR op rs rt rd sa fn) = rt := by
  simp only [rtF, wordR]
  apply BitVec.eq_of_getLsbD_eq
  intro k hk
  simp only [BitVec.getLsbD_extractLsb', BitVec.getLsbD_cast, BitVec.getLsbD_append, hk, decide_true, Bool.true_and]
  grind

@[simp] theorem rdF_wordR (op : BitVec 6) (rs rt rd sa : BitVec 5) (fn : BitVec 6) :
    rdF (wordR op rs rt rd sa fn) = rd := by
  simp only [rdF, wordR]
  apply BitVec.eq_of_getLsbD_eq
  intro k hk
  simp only [BitVec.getLsbD_extractLsb', BitVec.getLsbD_cast, BitVec.getLsbD_append, hk, decide_true, Bool.true_and]
  grind

@[simp] theorem saF_wordR (op : BitVec 6) (rs rt rd sa : BitVec 5) (fn : BitVec 6) :
    saF (wordR op rs rt rd sa fn) = sa := by
  simp only [saF, wordR]
  apply BitVec.eq_of_getLsbD_eq
  intro k hk
  simp only [BitVec.getLsbD_extractLsb', BitVec.getLsbD_cast, BitVec.getLsbD_append, hk, decide_true, Bool.true_and]
  grind

@[simp] theorem fnF_wordR (op : BitVec 6) (rs rt rd sa : BitVec 5) (fn : BitVec 6) :
    fnF (wordR op rs rt rd sa fn) = fn := by
  simp only [fnF, wordR]
  apply BitVec.eq_of_getLsbD_eq
  intro k hk
  simp only [BitVec.getLsbD_extractLsb', BitVec.getLsbD_cast, BitVec.getLsbD_append, hk, decide_true, Bool.true_and]
  grind

@[simp] theorem opF_wordJ (op : BitVec 6) (target : BitVec 26) :
    opF (wordJ op target) = op := by
  simp only [opF, wordJ]
  apply BitVec.eq_of_getLsbD_eq
  intro k hk
  simp only [BitVec.getLsbD_extractLsb', BitVec.getLsbD_cast, BitVec.getLsbD_append, hk, decide_true, Bool.true_and]
  grind

@[simp] theorem targetF_wordJ (op : BitVec 6) (target : BitVec 26) :
    targetF (wordJ op target) = target := by
  simp only [targetF, wordJ]
  apply BitVec.eq_of_getLsbD_eq
  intro k hk
  simp only [BitVec.getLsbD_extractLsb', BitVec.getLsbD_cast, BitVec.getLsbD_append, hk, decide_true, Bool.true_and]
  grind

@[simp] theorem opF_wordCode (op : BitVec 6) (code : BitVec 20) (fn : BitVec 6) :
    opF (wordCode op code fn) = op := by
  simp only [opF, wordCode]
  apply BitVec.eq_of_getLsbD_eq
  intro k hk
  simp only [BitVec.getLsbD_extractLsb', BitVec.getLsbD_cast, BitVec.getLsbD_append, hk, decide_true, Bool.true_and]
  grind

@[simp] theorem codeF_wordCode (op : BitVec 6) (code : BitVec 20) (fn : BitVec 6) :
    codeF (wordCode op code fn) = code := by
  simp only [codeF, wordCode]
  apply BitVec.eq_of_getLsbD_eq
  intro k hk
  simp only [BitVec.getLsbD_extractLsb', BitVec.getLsbD_cast, BitVec.getLsbD_append, hk, decide_true, Bool.true_and]
  grind

@[simp] theorem fnF_wordCode (op : BitVec 6) (code : BitVec 20) (fn : BitVec 6) :
    fnF (wordCode op code fn) = fn := by
  simp only [fnF, wordCode]
  apply BitVec.eq_of_getLsbD_eq
  intro k hk
  simp only [BitVec.getLsbD_extractLsb', BitVec.getLsbD_cast, BitVec.getLsbD_append, hk, decide_true, Bool.true_and]
  grind

@[simp] theorem opF_wordTrap (op : BitVec 6) (rs rt : BitVec 5) (code : BitVec 10) (fn : BitVec 6) :
    opF (wordTrap op rs rt code fn) = op := by
  simp only [opF, wordTrap]
  apply BitVec.eq_of_getLsbD_eq
  intro k hk
  simp only [BitVec.getLsbD_extractLsb', BitVec.getLsbD_cast, BitVec.getLsbD_append, hk, decide_true, Bool.true_and]
  grind

@[simp] theorem rsF_wordTrap (op : BitVec 6) (rs rt : BitVec 5) (code : BitVec 10) (fn : BitVec 6) :
    rsF (wordTrap op rs rt code fn) = rs := by
  simp only [rsF, wordTrap]
  apply BitVec.eq_of_getLsbD_eq
  intro k hk
  simp only [BitVec.getLsbD_extractLsb', BitVec.getLsbD_cast, BitVec.getLsbD_append, hk, decide_true, Bool.true_and]
  grind

@[simp] theorem rtF_wordTrap (op : BitVec 6) (rs rt : BitVec 5) (code : BitVec 10) (fn : BitVec 6) :
    rtF (wordTrap op rs rt code fn) = rt := by
  simp only [rtF, wordTrap]
  apply BitVec.eq_of_getLsbD_eq
  intro k hk
  simp only [BitVec.getLsbD_extractLsb', BitVec.getLsbD_cast, BitVec.getLsbD_append, hk, decide_true, Bool.true_and]
  grind

@[simp] theorem trapCodeF_wordTrap (op : BitVec 6) (rs rt : BitVec 5) (code : BitVec 10) (fn : BitVec 6) :
    trapCodeF (wordTrap op rs rt code fn) = code := by
  simp only [trapCodeF, wordTrap]
  apply BitVec.eq_of_getLsbD_eq
  intro k hk
  simp only [BitVec.getLsbD_extractLsb', BitVec.getLsbD_cast, BitVec.getLsbD_append, hk, decide_true, Bool.true_and]
  grind

@[simp] theorem fnF_wordTrap (op : BitVec 6) (rs rt : BitVec 5) (code : BitVec 10) (fn : BitVec 6) :
    fnF (wordTrap op rs rt code fn) = fn := by
  simp only [fnF, wordTrap]
  apply BitVec.eq_of_getLsbD_eq
  intro k hk
  simp only [BitVec.getLsbD_extractLsb', BitVec.getLsbD_cast, BitVec.getLsbD_append, hk, decide_true, Bool.true_and]
  grind

/-- The CO format's zero bits 24:6 are 0 in a word whose rs field is 16 and whose other fields are 0. -/
@[simp] theorem coZeroF_wordR (op : BitVec 6) (fn : BitVec 6) :
    coZeroF (wordR op 16#5 0#5 0#5 0#5 fn) = 0#19 := by
  simp only [coZeroF, wordR]
  apply BitVec.eq_of_getLsbD_eq
  intro k hk
  simp only [BitVec.getLsbD_extractLsb', BitVec.getLsbD_cast, BitVec.getLsbD_append, hk, decide_true, Bool.true_and]
  have h : k < 4 ∨ k < 9 ∨ k < 14 ∨ k < 19 := by omega
  interval_cases k <;> simp

/-- The FB format's zero bits 20:18 are the high bits of the rt field. -/
@[simp] theorem condHighF_wordI (op : BitVec 6) (rs rt : BitVec 5) (imm : BitVec 16) :
    condHighF (wordI op rs rt imm) = rt.extractLsb' 2 3 := by
  simp only [condHighF, wordI]
  apply BitVec.eq_of_getLsbD_eq
  intro k hk
  simp only [BitVec.getLsbD_extractLsb', BitVec.getLsbD_cast, BitVec.getLsbD_append, hk, decide_true, Bool.true_and]
  grind

/-- The FB format's nd and tf bits are the low bits of the rt field. -/
@[simp] theorem condLowF_wordI (op : BitVec 6) (rs rt : BitVec 5) (imm : BitVec 16) :
    condLowF (wordI op rs rt imm) = rt.extractLsb' 0 2 := by
  simp only [condLowF, wordI]
  apply BitVec.eq_of_getLsbD_eq
  intro k hk
  simp only [BitVec.getLsbD_extractLsb', BitVec.getLsbD_cast, BitVec.getLsbD_append, hk, decide_true, Bool.true_and]
  grind

end Sys2Proof
end

