-- ==== Sys2Proof/Laws/PerInstr.lean ====
section
/-! SUPPORT. The per-instruction family RoundTrip: decoding the encoding of an instruction gives it back,
one lemma per constructor (spec/30_encoding.md R173, R183). -/

set_option Elab.async false

namespace Sys2Proof

/-- The encoder and the decoder agree on this instruction, with its operands at every value the encoding admits. -/
def Laws.RoundTrip.Statement (i : Instr) : Prop :=
  decode (encode i) = .instr i

theorem Laws.RoundTrip.lb (base : Reg) (rt : Reg) (offset : BitVec 16) : Laws.RoundTrip.Statement (.lb base rt offset) := by
  simp [Laws.RoundTrip.Statement, encode, decode]

theorem Laws.RoundTrip.lbu (base : Reg) (rt : Reg) (offset : BitVec 16) : Laws.RoundTrip.Statement (.lbu base rt offset) := by
  simp [Laws.RoundTrip.Statement, encode, decode]

theorem Laws.RoundTrip.lh (base : Reg) (rt : Reg) (offset : BitVec 16) : Laws.RoundTrip.Statement (.lh base rt offset) := by
  simp [Laws.RoundTrip.Statement, encode, decode]

theorem Laws.RoundTrip.lhu (base : Reg) (rt : Reg) (offset : BitVec 16) : Laws.RoundTrip.Statement (.lhu base rt offset) := by
  simp [Laws.RoundTrip.Statement, encode, decode]

theorem Laws.RoundTrip.lw (base : Reg) (rt : Reg) (offset : BitVec 16) : Laws.RoundTrip.Statement (.lw base rt offset) := by
  simp [Laws.RoundTrip.Statement, encode, decode]

theorem Laws.RoundTrip.lwu (base : Reg) (rt : Reg) (offset : BitVec 16) : Laws.RoundTrip.Statement (.lwu base rt offset) := by
  simp [Laws.RoundTrip.Statement, encode, decode]

theorem Laws.RoundTrip.ld (base : Reg) (rt : Reg) (offset : BitVec 16) : Laws.RoundTrip.Statement (.ld base rt offset) := by
  simp [Laws.RoundTrip.Statement, encode, decode]

theorem Laws.RoundTrip.lwl (base : Reg) (rt : Reg) (offset : BitVec 16) : Laws.RoundTrip.Statement (.lwl base rt offset) := by
  simp [Laws.RoundTrip.Statement, encode, decode]

theorem Laws.RoundTrip.lwr (base : Reg) (rt : Reg) (offset : BitVec 16) : Laws.RoundTrip.Statement (.lwr base rt offset) := by
  simp [Laws.RoundTrip.Statement, encode, decode]

theorem Laws.RoundTrip.ldl (base : Reg) (rt : Reg) (offset : BitVec 16) : Laws.RoundTrip.Statement (.ldl base rt offset) := by
  simp [Laws.RoundTrip.Statement, encode, decode]

theorem Laws.RoundTrip.ldr (base : Reg) (rt : Reg) (offset : BitVec 16) : Laws.RoundTrip.Statement (.ldr base rt offset) := by
  simp [Laws.RoundTrip.Statement, encode, decode]

theorem Laws.RoundTrip.sb (base : Reg) (rt : Reg) (offset : BitVec 16) : Laws.RoundTrip.Statement (.sb base rt offset) := by
  simp [Laws.RoundTrip.Statement, encode, decode]

theorem Laws.RoundTrip.sh (base : Reg) (rt : Reg) (offset : BitVec 16) : Laws.RoundTrip.Statement (.sh base rt offset) := by
  simp [Laws.RoundTrip.Statement, encode, decode]

theorem Laws.RoundTrip.sw (base : Reg) (rt : Reg) (offset : BitVec 16) : Laws.RoundTrip.Statement (.sw base rt offset) := by
  simp [Laws.RoundTrip.Statement, encode, decode]

theorem Laws.RoundTrip.sd (base : Reg) (rt : Reg) (offset : BitVec 16) : Laws.RoundTrip.Statement (.sd base rt offset) := by
  simp [Laws.RoundTrip.Statement, encode, decode]

theorem Laws.RoundTrip.swl (base : Reg) (rt : Reg) (offset : BitVec 16) : Laws.RoundTrip.Statement (.swl base rt offset) := by
  simp [Laws.RoundTrip.Statement, encode, decode]

theorem Laws.RoundTrip.swr (base : Reg) (rt : Reg) (offset : BitVec 16) : Laws.RoundTrip.Statement (.swr base rt offset) := by
  simp [Laws.RoundTrip.Statement, encode, decode]

theorem Laws.RoundTrip.sdl (base : Reg) (rt : Reg) (offset : BitVec 16) : Laws.RoundTrip.Statement (.sdl base rt offset) := by
  simp [Laws.RoundTrip.Statement, encode, decode]

theorem Laws.RoundTrip.sdr (base : Reg) (rt : Reg) (offset : BitVec 16) : Laws.RoundTrip.Statement (.sdr base rt offset) := by
  simp [Laws.RoundTrip.Statement, encode, decode]

theorem Laws.RoundTrip.ll (base : Reg) (rt : Reg) (offset : BitVec 16) : Laws.RoundTrip.Statement (.ll base rt offset) := by
  simp [Laws.RoundTrip.Statement, encode, decode]

theorem Laws.RoundTrip.lld (base : Reg) (rt : Reg) (offset : BitVec 16) : Laws.RoundTrip.Statement (.lld base rt offset) := by
  simp [Laws.RoundTrip.Statement, encode, decode]

theorem Laws.RoundTrip.sc (base : Reg) (rt : Reg) (offset : BitVec 16) : Laws.RoundTrip.Statement (.sc base rt offset) := by
  simp [Laws.RoundTrip.Statement, encode, decode]

theorem Laws.RoundTrip.scd (base : Reg) (rt : Reg) (offset : BitVec 16) : Laws.RoundTrip.Statement (.scd base rt offset) := by
  simp [Laws.RoundTrip.Statement, encode, decode]

theorem Laws.RoundTrip.addi (rs : Reg) (rt : Reg) (imm : BitVec 16) : Laws.RoundTrip.Statement (.addi rs rt imm) := by
  simp [Laws.RoundTrip.Statement, encode, decode]

theorem Laws.RoundTrip.addiu (rs : Reg) (rt : Reg) (imm : BitVec 16) : Laws.RoundTrip.Statement (.addiu rs rt imm) := by
  simp [Laws.RoundTrip.Statement, encode, decode]

theorem Laws.RoundTrip.slti (rs : Reg) (rt : Reg) (imm : BitVec 16) : Laws.RoundTrip.Statement (.slti rs rt imm) := by
  simp [Laws.RoundTrip.Statement, encode, decode]

theorem Laws.RoundTrip.sltiu (rs : Reg) (rt : Reg) (imm : BitVec 16) : Laws.RoundTrip.Statement (.sltiu rs rt imm) := by
  simp [Laws.RoundTrip.Statement, encode, decode]

theorem Laws.RoundTrip.andi (rs : Reg) (rt : Reg) (imm : BitVec 16) : Laws.RoundTrip.Statement (.andi rs rt imm) := by
  simp [Laws.RoundTrip.Statement, encode, decode]

theorem Laws.RoundTrip.ori (rs : Reg) (rt : Reg) (imm : BitVec 16) : Laws.RoundTrip.Statement (.ori rs rt imm) := by
  simp [Laws.RoundTrip.Statement, encode, decode]

theorem Laws.RoundTrip.xori (rs : Reg) (rt : Reg) (imm : BitVec 16) : Laws.RoundTrip.Statement (.xori rs rt imm) := by
  simp [Laws.RoundTrip.Statement, encode, decode]

theorem Laws.RoundTrip.daddi (rs : Reg) (rt : Reg) (imm : BitVec 16) : Laws.RoundTrip.Statement (.daddi rs rt imm) := by
  simp [Laws.RoundTrip.Statement, encode, decode]

theorem Laws.RoundTrip.daddiu (rs : Reg) (rt : Reg) (imm : BitVec 16) : Laws.RoundTrip.Statement (.daddiu rs rt imm) := by
  simp [Laws.RoundTrip.Statement, encode, decode]

theorem Laws.RoundTrip.lui (rt : Reg) (imm : BitVec 16) : Laws.RoundTrip.Statement (.lui rt imm) := by
  simp [Laws.RoundTrip.Statement, encode, decode, zeroed]

theorem Laws.RoundTrip.add (rs : Reg) (rt : Reg) (rd : Reg) : Laws.RoundTrip.Statement (.add rs rt rd) := by
  simp [Laws.RoundTrip.Statement, encode, decode, decodeSpecial, zeroed]

theorem Laws.RoundTrip.addu (rs : Reg) (rt : Reg) (rd : Reg) : Laws.RoundTrip.Statement (.addu rs rt rd) := by
  simp [Laws.RoundTrip.Statement, encode, decode, decodeSpecial, zeroed]

theorem Laws.RoundTrip.sub (rs : Reg) (rt : Reg) (rd : Reg) : Laws.RoundTrip.Statement (.sub rs rt rd) := by
  simp [Laws.RoundTrip.Statement, encode, decode, decodeSpecial, zeroed]

theorem Laws.RoundTrip.subu (rs : Reg) (rt : Reg) (rd : Reg) : Laws.RoundTrip.Statement (.subu rs rt rd) := by
  simp [Laws.RoundTrip.Statement, encode, decode, decodeSpecial, zeroed]

theorem Laws.RoundTrip.and (rs : Reg) (rt : Reg) (rd : Reg) : Laws.RoundTrip.Statement (.and rs rt rd) := by
  simp [Laws.RoundTrip.Statement, encode, decode, decodeSpecial, zeroed]

theorem Laws.RoundTrip.or (rs : Reg) (rt : Reg) (rd : Reg) : Laws.RoundTrip.Statement (.or rs rt rd) := by
  simp [Laws.RoundTrip.Statement, encode, decode, decodeSpecial, zeroed]

theorem Laws.RoundTrip.xor (rs : Reg) (rt : Reg) (rd : Reg) : Laws.RoundTrip.Statement (.xor rs rt rd) := by
  simp [Laws.RoundTrip.Statement, encode, decode, decodeSpecial, zeroed]

theorem Laws.RoundTrip.nor (rs : Reg) (rt : Reg) (rd : Reg) : Laws.RoundTrip.Statement (.nor rs rt rd) := by
  simp [Laws.RoundTrip.Statement, encode, decode, decodeSpecial, zeroed]

theorem Laws.RoundTrip.slt (rs : Reg) (rt : Reg) (rd : Reg) : Laws.RoundTrip.Statement (.slt rs rt rd) := by
  simp [Laws.RoundTrip.Statement, encode, decode, decodeSpecial, zeroed]

theorem Laws.RoundTrip.sltu (rs : Reg) (rt : Reg) (rd : Reg) : Laws.RoundTrip.Statement (.sltu rs rt rd) := by
  simp [Laws.RoundTrip.Statement, encode, decode, decodeSpecial, zeroed]

theorem Laws.RoundTrip.dadd (rs : Reg) (rt : Reg) (rd : Reg) : Laws.RoundTrip.Statement (.dadd rs rt rd) := by
  simp [Laws.RoundTrip.Statement, encode, decode, decodeSpecial, zeroed]

theorem Laws.RoundTrip.daddu (rs : Reg) (rt : Reg) (rd : Reg) : Laws.RoundTrip.Statement (.daddu rs rt rd) := by
  simp [Laws.RoundTrip.Statement, encode, decode, decodeSpecial, zeroed]

theorem Laws.RoundTrip.dsub (rs : Reg) (rt : Reg) (rd : Reg) : Laws.RoundTrip.Statement (.dsub rs rt rd) := by
  simp [Laws.RoundTrip.Statement, encode, decode, decodeSpecial, zeroed]

theorem Laws.RoundTrip.dsubu (rs : Reg) (rt : Reg) (rd : Reg) : Laws.RoundTrip.Statement (.dsubu rs rt rd) := by
  simp [Laws.RoundTrip.Statement, encode, decode, decodeSpecial, zeroed]

theorem Laws.RoundTrip.sllv (rs : Reg) (rt : Reg) (rd : Reg) : Laws.RoundTrip.Statement (.sllv rs rt rd) := by
  simp [Laws.RoundTrip.Statement, encode, decode, decodeSpecial, zeroed]

theorem Laws.RoundTrip.srlv (rs : Reg) (rt : Reg) (rd : Reg) : Laws.RoundTrip.Statement (.srlv rs rt rd) := by
  simp [Laws.RoundTrip.Statement, encode, decode, decodeSpecial, zeroed]

theorem Laws.RoundTrip.srav (rs : Reg) (rt : Reg) (rd : Reg) : Laws.RoundTrip.Statement (.srav rs rt rd) := by
  simp [Laws.RoundTrip.Statement, encode, decode, decodeSpecial, zeroed]

theorem Laws.RoundTrip.dsllv (rs : Reg) (rt : Reg) (rd : Reg) : Laws.RoundTrip.Statement (.dsllv rs rt rd) := by
  simp [Laws.RoundTrip.Statement, encode, decode, decodeSpecial, zeroed]

theorem Laws.RoundTrip.dsrlv (rs : Reg) (rt : Reg) (rd : Reg) : Laws.RoundTrip.Statement (.dsrlv rs rt rd) := by
  simp [Laws.RoundTrip.Statement, encode, decode, decodeSpecial, zeroed]

theorem Laws.RoundTrip.dsrav (rs : Reg) (rt : Reg) (rd : Reg) : Laws.RoundTrip.Statement (.dsrav rs rt rd) := by
  simp [Laws.RoundTrip.Statement, encode, decode, decodeSpecial, zeroed]

theorem Laws.RoundTrip.sll (rt : Reg) (rd : Reg) (sa : BitVec 5) : Laws.RoundTrip.Statement (.sll rt rd sa) := by
  simp [Laws.RoundTrip.Statement, encode, decode, decodeSpecial, zeroed]

theorem Laws.RoundTrip.srl (rt : Reg) (rd : Reg) (sa : BitVec 5) : Laws.RoundTrip.Statement (.srl rt rd sa) := by
  simp [Laws.RoundTrip.Statement, encode, decode, decodeSpecial, zeroed]

theorem Laws.RoundTrip.sra (rt : Reg) (rd : Reg) (sa : BitVec 5) : Laws.RoundTrip.Statement (.sra rt rd sa) := by
  simp [Laws.RoundTrip.Statement, encode, decode, decodeSpecial, zeroed]

theorem Laws.RoundTrip.dsll (rt : Reg) (rd : Reg) (sa : BitVec 5) : Laws.RoundTrip.Statement (.dsll rt rd sa) := by
  simp [Laws.RoundTrip.Statement, encode, decode, decodeSpecial, zeroed]

theorem Laws.RoundTrip.dsrl (rt : Reg) (rd : Reg) (sa : BitVec 5) : Laws.RoundTrip.Statement (.dsrl rt rd sa) := by
  simp [Laws.RoundTrip.Statement, encode, decode, decodeSpecial, zeroed]

theorem Laws.RoundTrip.dsra (rt : Reg) (rd : Reg) (sa : BitVec 5) : Laws.RoundTrip.Statement (.dsra rt rd sa) := by
  simp [Laws.RoundTrip.Statement, encode, decode, decodeSpecial, zeroed]

theorem Laws.RoundTrip.dsll32 (rt : Reg) (rd : Reg) (sa : BitVec 5) : Laws.RoundTrip.Statement (.dsll32 rt rd sa) := by
  simp [Laws.RoundTrip.Statement, encode, decode, decodeSpecial, zeroed]

theorem Laws.RoundTrip.dsrl32 (rt : Reg) (rd : Reg) (sa : BitVec 5) : Laws.RoundTrip.Statement (.dsrl32 rt rd sa) := by
  simp [Laws.RoundTrip.Statement, encode, decode, decodeSpecial, zeroed]

theorem Laws.RoundTrip.dsra32 (rt : Reg) (rd : Reg) (sa : BitVec 5) : Laws.RoundTrip.Statement (.dsra32 rt rd sa) := by
  simp [Laws.RoundTrip.Statement, encode, decode, decodeSpecial, zeroed]

theorem Laws.RoundTrip.mult (rs : Reg) (rt : Reg) : Laws.RoundTrip.Statement (.mult rs rt) := by
  simp [Laws.RoundTrip.Statement, encode, decode, decodeSpecial, zeroed]

theorem Laws.RoundTrip.multu (rs : Reg) (rt : Reg) : Laws.RoundTrip.Statement (.multu rs rt) := by
  simp [Laws.RoundTrip.Statement, encode, decode, decodeSpecial, zeroed]

theorem Laws.RoundTrip.dmult (rs : Reg) (rt : Reg) : Laws.RoundTrip.Statement (.dmult rs rt) := by
  simp [Laws.RoundTrip.Statement, encode, decode, decodeSpecial, zeroed]

theorem Laws.RoundTrip.dmultu (rs : Reg) (rt : Reg) : Laws.RoundTrip.Statement (.dmultu rs rt) := by
  simp [Laws.RoundTrip.Statement, encode, decode, decodeSpecial, zeroed]

theorem Laws.RoundTrip.div (rs : Reg) (rt : Reg) : Laws.RoundTrip.Statement (.div rs rt) := by
  simp [Laws.RoundTrip.Statement, encode, decode, decodeSpecial, zeroed]

theorem Laws.RoundTrip.divu (rs : Reg) (rt : Reg) : Laws.RoundTrip.Statement (.divu rs rt) := by
  simp [Laws.RoundTrip.Statement, encode, decode, decodeSpecial, zeroed]

theorem Laws.RoundTrip.ddiv (rs : Reg) (rt : Reg) : Laws.RoundTrip.Statement (.ddiv rs rt) := by
  simp [Laws.RoundTrip.Statement, encode, decode, decodeSpecial, zeroed]

theorem Laws.RoundTrip.ddivu (rs : Reg) (rt : Reg) : Laws.RoundTrip.Statement (.ddivu rs rt) := by
  simp [Laws.RoundTrip.Statement, encode, decode, decodeSpecial, zeroed]

theorem Laws.RoundTrip.mfhi (rd : Reg) : Laws.RoundTrip.Statement (.mfhi rd) := by
  simp [Laws.RoundTrip.Statement, encode, decode, decodeSpecial, zeroed]

theorem Laws.RoundTrip.mthi (rs : Reg) : Laws.RoundTrip.Statement (.mthi rs) := by
  simp [Laws.RoundTrip.Statement, encode, decode, decodeSpecial, zeroed]

theorem Laws.RoundTrip.mflo (rd : Reg) : Laws.RoundTrip.Statement (.mflo rd) := by
  simp [Laws.RoundTrip.Statement, encode, decode, decodeSpecial, zeroed]

theorem Laws.RoundTrip.mtlo (rs : Reg) : Laws.RoundTrip.Statement (.mtlo rs) := by
  simp [Laws.RoundTrip.Statement, encode, decode, decodeSpecial, zeroed]

theorem Laws.RoundTrip.j (target : BitVec 26) : Laws.RoundTrip.Statement (.j target) := by
  simp [Laws.RoundTrip.Statement, encode, decode]

theorem Laws.RoundTrip.jal (target : BitVec 26) : Laws.RoundTrip.Statement (.jal target) := by
  simp [Laws.RoundTrip.Statement, encode, decode]

theorem Laws.RoundTrip.jr (rs : Reg) : Laws.RoundTrip.Statement (.jr rs) := by
  simp [Laws.RoundTrip.Statement, encode, decode, decodeSpecial, zeroed]

theorem Laws.RoundTrip.jalr (rs : Reg) (rd : Reg) : Laws.RoundTrip.Statement (.jalr rs rd) := by
  simp [Laws.RoundTrip.Statement, encode, decode, decodeSpecial, zeroed]

theorem Laws.RoundTrip.beq (rs : Reg) (rt : Reg) (offset : BitVec 16) : Laws.RoundTrip.Statement (.beq rs rt offset) := by
  simp [Laws.RoundTrip.Statement, encode, decode]

theorem Laws.RoundTrip.bne (rs : Reg) (rt : Reg) (offset : BitVec 16) : Laws.RoundTrip.Statement (.bne rs rt offset) := by
  simp [Laws.RoundTrip.Statement, encode, decode]

theorem Laws.RoundTrip.beql (rs : Reg) (rt : Reg) (offset : BitVec 16) : Laws.RoundTrip.Statement (.beql rs rt offset) := by
  simp [Laws.RoundTrip.Statement, encode, decode]

theorem Laws.RoundTrip.bnel (rs : Reg) (rt : Reg) (offset : BitVec 16) : Laws.RoundTrip.Statement (.bnel rs rt offset) := by
  simp [Laws.RoundTrip.Statement, encode, decode]

theorem Laws.RoundTrip.blez (rs : Reg) (offset : BitVec 16) : Laws.RoundTrip.Statement (.blez rs offset) := by
  simp [Laws.RoundTrip.Statement, encode, decode, zeroed]

theorem Laws.RoundTrip.bgtz (rs : Reg) (offset : BitVec 16) : Laws.RoundTrip.Statement (.bgtz rs offset) := by
  simp [Laws.RoundTrip.Statement, encode, decode, zeroed]

theorem Laws.RoundTrip.blezl (rs : Reg) (offset : BitVec 16) : Laws.RoundTrip.Statement (.blezl rs offset) := by
  simp [Laws.RoundTrip.Statement, encode, decode, zeroed]

theorem Laws.RoundTrip.bgtzl (rs : Reg) (offset : BitVec 16) : Laws.RoundTrip.Statement (.bgtzl rs offset) := by
  simp [Laws.RoundTrip.Statement, encode, decode, zeroed]

theorem Laws.RoundTrip.bltz (rs : Reg) (offset : BitVec 16) : Laws.RoundTrip.Statement (.bltz rs offset) := by
  simp [Laws.RoundTrip.Statement, encode, decode, decodeRegimm]

theorem Laws.RoundTrip.bgez (rs : Reg) (offset : BitVec 16) : Laws.RoundTrip.Statement (.bgez rs offset) := by
  simp [Laws.RoundTrip.Statement, encode, decode, decodeRegimm]

theorem Laws.RoundTrip.bltzal (rs : Reg) (offset : BitVec 16) : Laws.RoundTrip.Statement (.bltzal rs offset) := by
  simp [Laws.RoundTrip.Statement, encode, decode, decodeRegimm]

theorem Laws.RoundTrip.bgezal (rs : Reg) (offset : BitVec 16) : Laws.RoundTrip.Statement (.bgezal rs offset) := by
  simp [Laws.RoundTrip.Statement, encode, decode, decodeRegimm]

theorem Laws.RoundTrip.bltzall (rs : Reg) (offset : BitVec 16) : Laws.RoundTrip.Statement (.bltzall rs offset) := by
  simp [Laws.RoundTrip.Statement, encode, decode, decodeRegimm]

theorem Laws.RoundTrip.bgezall (rs : Reg) (offset : BitVec 16) : Laws.RoundTrip.Statement (.bgezall rs offset) := by
  simp [Laws.RoundTrip.Statement, encode, decode, decodeRegimm]

theorem Laws.RoundTrip.bltzl (rs : Reg) (offset : BitVec 16) : Laws.RoundTrip.Statement (.bltzl rs offset) := by
  simp [Laws.RoundTrip.Statement, encode, decode, decodeRegimm]

theorem Laws.RoundTrip.bgezl (rs : Reg) (offset : BitVec 16) : Laws.RoundTrip.Statement (.bgezl rs offset) := by
  simp [Laws.RoundTrip.Statement, encode, decode, decodeRegimm]

theorem Laws.RoundTrip.tge (rs : Reg) (rt : Reg) (code : BitVec 10) : Laws.RoundTrip.Statement (.tge rs rt code) := by
  simp [Laws.RoundTrip.Statement, encode, decode, decodeSpecial]

theorem Laws.RoundTrip.tgeu (rs : Reg) (rt : Reg) (code : BitVec 10) : Laws.RoundTrip.Statement (.tgeu rs rt code) := by
  simp [Laws.RoundTrip.Statement, encode, decode, decodeSpecial]

theorem Laws.RoundTrip.tlt (rs : Reg) (rt : Reg) (code : BitVec 10) : Laws.RoundTrip.Statement (.tlt rs rt code) := by
  simp [Laws.RoundTrip.Statement, encode, decode, decodeSpecial]

theorem Laws.RoundTrip.tltu (rs : Reg) (rt : Reg) (code : BitVec 10) : Laws.RoundTrip.Statement (.tltu rs rt code) := by
  simp [Laws.RoundTrip.Statement, encode, decode, decodeSpecial]

theorem Laws.RoundTrip.teq (rs : Reg) (rt : Reg) (code : BitVec 10) : Laws.RoundTrip.Statement (.teq rs rt code) := by
  simp [Laws.RoundTrip.Statement, encode, decode, decodeSpecial]

theorem Laws.RoundTrip.tne (rs : Reg) (rt : Reg) (code : BitVec 10) : Laws.RoundTrip.Statement (.tne rs rt code) := by
  simp [Laws.RoundTrip.Statement, encode, decode, decodeSpecial]

theorem Laws.RoundTrip.tgei (rs : Reg) (imm : BitVec 16) : Laws.RoundTrip.Statement (.tgei rs imm) := by
  simp [Laws.RoundTrip.Statement, encode, decode, decodeRegimm]

theorem Laws.RoundTrip.tgeiu (rs : Reg) (imm : BitVec 16) : Laws.RoundTrip.Statement (.tgeiu rs imm) := by
  simp [Laws.RoundTrip.Statement, encode, decode, decodeRegimm]

theorem Laws.RoundTrip.tlti (rs : Reg) (imm : BitVec 16) : Laws.RoundTrip.Statement (.tlti rs imm) := by
  simp [Laws.RoundTrip.Statement, encode, decode, decodeRegimm]

theorem Laws.RoundTrip.tltiu (rs : Reg) (imm : BitVec 16) : Laws.RoundTrip.Statement (.tltiu rs imm) := by
  simp [Laws.RoundTrip.Statement, encode, decode, decodeRegimm]

theorem Laws.RoundTrip.teqi (rs : Reg) (imm : BitVec 16) : Laws.RoundTrip.Statement (.teqi rs imm) := by
  simp [Laws.RoundTrip.Statement, encode, decode, decodeRegimm]

theorem Laws.RoundTrip.tnei (rs : Reg) (imm : BitVec 16) : Laws.RoundTrip.Statement (.tnei rs imm) := by
  simp [Laws.RoundTrip.Statement, encode, decode, decodeRegimm]

theorem Laws.RoundTrip.syscall (code : BitVec 20) : Laws.RoundTrip.Statement (.syscall code) := by
  simp [Laws.RoundTrip.Statement, encode, decode, decodeSpecial]

theorem Laws.RoundTrip.brk (code : BitVec 20) : Laws.RoundTrip.Statement (.brk code) := by
  simp [Laws.RoundTrip.Statement, encode, decode, decodeSpecial]

theorem Laws.RoundTrip.sync : Laws.RoundTrip.Statement .sync := by
  simp [Laws.RoundTrip.Statement, encode, decode, decodeSpecial, zeroed]

theorem Laws.RoundTrip.cache (base : Reg) (op : BitVec 5) (offset : BitVec 16) : Laws.RoundTrip.Statement (.cache base op offset) := by
  simp [Laws.RoundTrip.Statement, encode, decode]

theorem Laws.RoundTrip.mfc0 (rt : Reg) (rd : Reg) : Laws.RoundTrip.Statement (.mfc0 rt rd) := by
  simp [Laws.RoundTrip.Statement, encode, decode, decodeCop0, zeroed]

theorem Laws.RoundTrip.mtc0 (rt : Reg) (rd : Reg) : Laws.RoundTrip.Statement (.mtc0 rt rd) := by
  simp [Laws.RoundTrip.Statement, encode, decode, decodeCop0, zeroed]

theorem Laws.RoundTrip.dmfc0 (rt : Reg) (rd : Reg) : Laws.RoundTrip.Statement (.dmfc0 rt rd) := by
  simp [Laws.RoundTrip.Statement, encode, decode, decodeCop0, zeroed]

theorem Laws.RoundTrip.dmtc0 (rt : Reg) (rd : Reg) : Laws.RoundTrip.Statement (.dmtc0 rt rd) := by
  simp [Laws.RoundTrip.Statement, encode, decode, decodeCop0, zeroed]

theorem Laws.RoundTrip.tlbr : Laws.RoundTrip.Statement .tlbr := by
  simp [Laws.RoundTrip.Statement, encode, decode, decodeCop0, decodeCo, zeroed]

theorem Laws.RoundTrip.tlbwi : Laws.RoundTrip.Statement .tlbwi := by
  simp [Laws.RoundTrip.Statement, encode, decode, decodeCop0, decodeCo, zeroed]

theorem Laws.RoundTrip.tlbwr : Laws.RoundTrip.Statement .tlbwr := by
  simp [Laws.RoundTrip.Statement, encode, decode, decodeCop0, decodeCo, zeroed]

theorem Laws.RoundTrip.tlbp : Laws.RoundTrip.Statement .tlbp := by
  simp [Laws.RoundTrip.Statement, encode, decode, decodeCop0, decodeCo, zeroed]

theorem Laws.RoundTrip.eret : Laws.RoundTrip.Statement .eret := by
  simp [Laws.RoundTrip.Statement, encode, decode, decodeCop0, decodeCo, zeroed]

theorem Laws.RoundTrip.lwc1 (base : Reg) (ft : Reg) (offset : BitVec 16) : Laws.RoundTrip.Statement (.lwc1 base ft offset) := by
  simp [Laws.RoundTrip.Statement, encode, decode]

theorem Laws.RoundTrip.ldc1 (base : Reg) (ft : Reg) (offset : BitVec 16) : Laws.RoundTrip.Statement (.ldc1 base ft offset) := by
  simp [Laws.RoundTrip.Statement, encode, decode]

theorem Laws.RoundTrip.swc1 (base : Reg) (ft : Reg) (offset : BitVec 16) : Laws.RoundTrip.Statement (.swc1 base ft offset) := by
  simp [Laws.RoundTrip.Statement, encode, decode]

theorem Laws.RoundTrip.sdc1 (base : Reg) (ft : Reg) (offset : BitVec 16) : Laws.RoundTrip.Statement (.sdc1 base ft offset) := by
  simp [Laws.RoundTrip.Statement, encode, decode]

theorem Laws.RoundTrip.mfc1 (rt : Reg) (fs : Reg) : Laws.RoundTrip.Statement (.mfc1 rt fs) := by
  simp [Laws.RoundTrip.Statement, encode, decode, decodeCop1, zeroed]

theorem Laws.RoundTrip.dmfc1 (rt : Reg) (fs : Reg) : Laws.RoundTrip.Statement (.dmfc1 rt fs) := by
  simp [Laws.RoundTrip.Statement, encode, decode, decodeCop1, zeroed]

theorem Laws.RoundTrip.cfc1 (rt : Reg) (fs : Reg) : Laws.RoundTrip.Statement (.cfc1 rt fs) := by
  simp [Laws.RoundTrip.Statement, encode, decode, decodeCop1, zeroed]

theorem Laws.RoundTrip.ctc1 (rt : Reg) (fs : Reg) : Laws.RoundTrip.Statement (.ctc1 rt fs) := by
  simp [Laws.RoundTrip.Statement, encode, decode, decodeCop1, zeroed]

theorem Laws.RoundTrip.mtc1 (rt : Reg) (fs : Reg) : Laws.RoundTrip.Statement (.mtc1 rt fs) := by
  simp [Laws.RoundTrip.Statement, encode, decode, decodeCop1, zeroed]

theorem Laws.RoundTrip.dmtc1 (rt : Reg) (fs : Reg) : Laws.RoundTrip.Statement (.dmtc1 rt fs) := by
  simp [Laws.RoundTrip.Statement, encode, decode, decodeCop1, zeroed]

theorem Laws.RoundTrip.bc1f (offset : BitVec 16) : Laws.RoundTrip.Statement (.bc1f offset) := by
  simp [Laws.RoundTrip.Statement, encode, decode, decodeCop1, decodeBc1, zeroed]

theorem Laws.RoundTrip.bc1t (offset : BitVec 16) : Laws.RoundTrip.Statement (.bc1t offset) := by
  simp [Laws.RoundTrip.Statement, encode, decode, decodeCop1, decodeBc1, zeroed]

theorem Laws.RoundTrip.bc1fl (offset : BitVec 16) : Laws.RoundTrip.Statement (.bc1fl offset) := by
  simp [Laws.RoundTrip.Statement, encode, decode, decodeCop1, decodeBc1, zeroed]

theorem Laws.RoundTrip.bc1tl (offset : BitVec 16) : Laws.RoundTrip.Statement (.bc1tl offset) := by
  simp [Laws.RoundTrip.Statement, encode, decode, decodeCop1, decodeBc1, zeroed]

theorem Laws.RoundTrip.addS (ft : Reg) (fs : Reg) (fd : Reg) : Laws.RoundTrip.Statement (.addS ft fs fd) := by
  simp [Laws.RoundTrip.Statement, encode, decode, decodeCop1, decodeFpS]

theorem Laws.RoundTrip.addD (ft : Reg) (fs : Reg) (fd : Reg) : Laws.RoundTrip.Statement (.addD ft fs fd) := by
  simp [Laws.RoundTrip.Statement, encode, decode, decodeCop1, decodeFpD]

theorem Laws.RoundTrip.subS (ft : Reg) (fs : Reg) (fd : Reg) : Laws.RoundTrip.Statement (.subS ft fs fd) := by
  simp [Laws.RoundTrip.Statement, encode, decode, decodeCop1, decodeFpS]

theorem Laws.RoundTrip.subD (ft : Reg) (fs : Reg) (fd : Reg) : Laws.RoundTrip.Statement (.subD ft fs fd) := by
  simp [Laws.RoundTrip.Statement, encode, decode, decodeCop1, decodeFpD]

theorem Laws.RoundTrip.mulS (ft : Reg) (fs : Reg) (fd : Reg) : Laws.RoundTrip.Statement (.mulS ft fs fd) := by
  simp [Laws.RoundTrip.Statement, encode, decode, decodeCop1, decodeFpS]

theorem Laws.RoundTrip.mulD (ft : Reg) (fs : Reg) (fd : Reg) : Laws.RoundTrip.Statement (.mulD ft fs fd) := by
  simp [Laws.RoundTrip.Statement, encode, decode, decodeCop1, decodeFpD]

theorem Laws.RoundTrip.divS (ft : Reg) (fs : Reg) (fd : Reg) : Laws.RoundTrip.Statement (.divS ft fs fd) := by
  simp [Laws.RoundTrip.Statement, encode, decode, decodeCop1, decodeFpS]

theorem Laws.RoundTrip.divD (ft : Reg) (fs : Reg) (fd : Reg) : Laws.RoundTrip.Statement (.divD ft fs fd) := by
  simp [Laws.RoundTrip.Statement, encode, decode, decodeCop1, decodeFpD]

theorem Laws.RoundTrip.sqrtS (fs : Reg) (fd : Reg) : Laws.RoundTrip.Statement (.sqrtS fs fd) := by
  simp [Laws.RoundTrip.Statement, encode, decode, decodeCop1, decodeFpS, zeroed]

theorem Laws.RoundTrip.sqrtD (fs : Reg) (fd : Reg) : Laws.RoundTrip.Statement (.sqrtD fs fd) := by
  simp [Laws.RoundTrip.Statement, encode, decode, decodeCop1, decodeFpD, zeroed]

theorem Laws.RoundTrip.absS (fs : Reg) (fd : Reg) : Laws.RoundTrip.Statement (.absS fs fd) := by
  simp [Laws.RoundTrip.Statement, encode, decode, decodeCop1, decodeFpS, zeroed]

theorem Laws.RoundTrip.absD (fs : Reg) (fd : Reg) : Laws.RoundTrip.Statement (.absD fs fd) := by
  simp [Laws.RoundTrip.Statement, encode, decode, decodeCop1, decodeFpD, zeroed]

theorem Laws.RoundTrip.movS (fs : Reg) (fd : Reg) : Laws.RoundTrip.Statement (.movS fs fd) := by
  simp [Laws.RoundTrip.Statement, encode, decode, decodeCop1, decodeFpS, zeroed]

theorem Laws.RoundTrip.movD (fs : Reg) (fd : Reg) : Laws.RoundTrip.Statement (.movD fs fd) := by
  simp [Laws.RoundTrip.Statement, encode, decode, decodeCop1, decodeFpD, zeroed]

theorem Laws.RoundTrip.negS (fs : Reg) (fd : Reg) : Laws.RoundTrip.Statement (.negS fs fd) := by
  simp [Laws.RoundTrip.Statement, encode, decode, decodeCop1, decodeFpS, zeroed]

theorem Laws.RoundTrip.negD (fs : Reg) (fd : Reg) : Laws.RoundTrip.Statement (.negD fs fd) := by
  simp [Laws.RoundTrip.Statement, encode, decode, decodeCop1, decodeFpD, zeroed]

theorem Laws.RoundTrip.roundLS (fs : Reg) (fd : Reg) : Laws.RoundTrip.Statement (.roundLS fs fd) := by
  simp [Laws.RoundTrip.Statement, encode, decode, decodeCop1, decodeFpS, zeroed]

theorem Laws.RoundTrip.roundLD (fs : Reg) (fd : Reg) : Laws.RoundTrip.Statement (.roundLD fs fd) := by
  simp [Laws.RoundTrip.Statement, encode, decode, decodeCop1, decodeFpD, zeroed]

theorem Laws.RoundTrip.truncLS (fs : Reg) (fd : Reg) : Laws.RoundTrip.Statement (.truncLS fs fd) := by
  simp [Laws.RoundTrip.Statement, encode, decode, decodeCop1, decodeFpS, zeroed]

theorem Laws.RoundTrip.truncLD (fs : Reg) (fd : Reg) : Laws.RoundTrip.Statement (.truncLD fs fd) := by
  simp [Laws.RoundTrip.Statement, encode, decode, decodeCop1, decodeFpD, zeroed]

theorem Laws.RoundTrip.ceilLS (fs : Reg) (fd : Reg) : Laws.RoundTrip.Statement (.ceilLS fs fd) := by
  simp [Laws.RoundTrip.Statement, encode, decode, decodeCop1, decodeFpS, zeroed]

theorem Laws.RoundTrip.ceilLD (fs : Reg) (fd : Reg) : Laws.RoundTrip.Statement (.ceilLD fs fd) := by
  simp [Laws.RoundTrip.Statement, encode, decode, decodeCop1, decodeFpD, zeroed]

theorem Laws.RoundTrip.floorLS (fs : Reg) (fd : Reg) : Laws.RoundTrip.Statement (.floorLS fs fd) := by
  simp [Laws.RoundTrip.Statement, encode, decode, decodeCop1, decodeFpS, zeroed]

theorem Laws.RoundTrip.floorLD (fs : Reg) (fd : Reg) : Laws.RoundTrip.Statement (.floorLD fs fd) := by
  simp [Laws.RoundTrip.Statement, encode, decode, decodeCop1, decodeFpD, zeroed]

theorem Laws.RoundTrip.roundWS (fs : Reg) (fd : Reg) : Laws.RoundTrip.Statement (.roundWS fs fd) := by
  simp [Laws.RoundTrip.Statement, encode, decode, decodeCop1, decodeFpS, zeroed]

theorem Laws.RoundTrip.roundWD (fs : Reg) (fd : Reg) : Laws.RoundTrip.Statement (.roundWD fs fd) := by
  simp [Laws.RoundTrip.Statement, encode, decode, decodeCop1, decodeFpD, zeroed]

theorem Laws.RoundTrip.truncWS (fs : Reg) (fd : Reg) : Laws.RoundTrip.Statement (.truncWS fs fd) := by
  simp [Laws.RoundTrip.Statement, encode, decode, decodeCop1, decodeFpS, zeroed]

theorem Laws.RoundTrip.truncWD (fs : Reg) (fd : Reg) : Laws.RoundTrip.Statement (.truncWD fs fd) := by
  simp [Laws.RoundTrip.Statement, encode, decode, decodeCop1, decodeFpD, zeroed]

theorem Laws.RoundTrip.ceilWS (fs : Reg) (fd : Reg) : Laws.RoundTrip.Statement (.ceilWS fs fd) := by
  simp [Laws.RoundTrip.Statement, encode, decode, decodeCop1, decodeFpS, zeroed]

theorem Laws.RoundTrip.ceilWD (fs : Reg) (fd : Reg) : Laws.RoundTrip.Statement (.ceilWD fs fd) := by
  simp [Laws.RoundTrip.Statement, encode, decode, decodeCop1, decodeFpD, zeroed]

theorem Laws.RoundTrip.floorWS (fs : Reg) (fd : Reg) : Laws.RoundTrip.Statement (.floorWS fs fd) := by
  simp [Laws.RoundTrip.Statement, encode, decode, decodeCop1, decodeFpS, zeroed]

theorem Laws.RoundTrip.floorWD (fs : Reg) (fd : Reg) : Laws.RoundTrip.Statement (.floorWD fs fd) := by
  simp [Laws.RoundTrip.Statement, encode, decode, decodeCop1, decodeFpD, zeroed]

theorem Laws.RoundTrip.cvtSD (fs : Reg) (fd : Reg) : Laws.RoundTrip.Statement (.cvtSD fs fd) := by
  simp [Laws.RoundTrip.Statement, encode, decode, decodeCop1, decodeFpD, zeroed]

theorem Laws.RoundTrip.cvtSW (fs : Reg) (fd : Reg) : Laws.RoundTrip.Statement (.cvtSW fs fd) := by
  simp [Laws.RoundTrip.Statement, encode, decode, decodeCop1, decodeFpW, zeroed]

theorem Laws.RoundTrip.cvtSL (fs : Reg) (fd : Reg) : Laws.RoundTrip.Statement (.cvtSL fs fd) := by
  simp [Laws.RoundTrip.Statement, encode, decode, decodeCop1, decodeFpL, zeroed]

theorem Laws.RoundTrip.cvtDS (fs : Reg) (fd : Reg) : Laws.RoundTrip.Statement (.cvtDS fs fd) := by
  simp [Laws.RoundTrip.Statement, encode, decode, decodeCop1, decodeFpS, zeroed]

theorem Laws.RoundTrip.cvtDW (fs : Reg) (fd : Reg) : Laws.RoundTrip.Statement (.cvtDW fs fd) := by
  simp [Laws.RoundTrip.Statement, encode, decode, decodeCop1, decodeFpW, zeroed]

theorem Laws.RoundTrip.cvtDL (fs : Reg) (fd : Reg) : Laws.RoundTrip.Statement (.cvtDL fs fd) := by
  simp [Laws.RoundTrip.Statement, encode, decode, decodeCop1, decodeFpL, zeroed]

theorem Laws.RoundTrip.cvtWS (fs : Reg) (fd : Reg) : Laws.RoundTrip.Statement (.cvtWS fs fd) := by
  simp [Laws.RoundTrip.Statement, encode, decode, decodeCop1, decodeFpS, zeroed]

theorem Laws.RoundTrip.cvtWD (fs : Reg) (fd : Reg) : Laws.RoundTrip.Statement (.cvtWD fs fd) := by
  simp [Laws.RoundTrip.Statement, encode, decode, decodeCop1, decodeFpD, zeroed]

theorem Laws.RoundTrip.cvtLS (fs : Reg) (fd : Reg) : Laws.RoundTrip.Statement (.cvtLS fs fd) := by
  simp [Laws.RoundTrip.Statement, encode, decode, decodeCop1, decodeFpS, zeroed]

theorem Laws.RoundTrip.cvtLD (fs : Reg) (fd : Reg) : Laws.RoundTrip.Statement (.cvtLD fs fd) := by
  simp [Laws.RoundTrip.Statement, encode, decode, decodeCop1, decodeFpD, zeroed]

theorem Laws.RoundTrip.cFS (ft : Reg) (fs : Reg) : Laws.RoundTrip.Statement (.cFS ft fs) := by
  simp [Laws.RoundTrip.Statement, encode, decode, decodeCop1, decodeFpS, zeroed]

theorem Laws.RoundTrip.cUnS (ft : Reg) (fs : Reg) : Laws.RoundTrip.Statement (.cUnS ft fs) := by
  simp [Laws.RoundTrip.Statement, encode, decode, decodeCop1, decodeFpS, zeroed]

theorem Laws.RoundTrip.cEqS (ft : Reg) (fs : Reg) : Laws.RoundTrip.Statement (.cEqS ft fs) := by
  simp [Laws.RoundTrip.Statement, encode, decode, decodeCop1, decodeFpS, zeroed]

theorem Laws.RoundTrip.cUeqS (ft : Reg) (fs : Reg) : Laws.RoundTrip.Statement (.cUeqS ft fs) := by
  simp [Laws.RoundTrip.Statement, encode, decode, decodeCop1, decodeFpS, zeroed]

theorem Laws.RoundTrip.cOltS (ft : Reg) (fs : Reg) : Laws.RoundTrip.Statement (.cOltS ft fs) := by
  simp [Laws.RoundTrip.Statement, encode, decode, decodeCop1, decodeFpS, zeroed]

theorem Laws.RoundTrip.cUltS (ft : Reg) (fs : Reg) : Laws.RoundTrip.Statement (.cUltS ft fs) := by
  simp [Laws.RoundTrip.Statement, encode, decode, decodeCop1, decodeFpS, zeroed]

theorem Laws.RoundTrip.cOleS (ft : Reg) (fs : Reg) : Laws.RoundTrip.Statement (.cOleS ft fs) := by
  simp [Laws.RoundTrip.Statement, encode, decode, decodeCop1, decodeFpS, zeroed]

theorem Laws.RoundTrip.cUleS (ft : Reg) (fs : Reg) : Laws.RoundTrip.Statement (.cUleS ft fs) := by
  simp [Laws.RoundTrip.Statement, encode, decode, decodeCop1, decodeFpS, zeroed]

theorem Laws.RoundTrip.cSfS (ft : Reg) (fs : Reg) : Laws.RoundTrip.Statement (.cSfS ft fs) := by
  simp [Laws.RoundTrip.Statement, encode, decode, decodeCop1, decodeFpS, zeroed]

theorem Laws.RoundTrip.cNgleS (ft : Reg) (fs : Reg) : Laws.RoundTrip.Statement (.cNgleS ft fs) := by
  simp [Laws.RoundTrip.Statement, encode, decode, decodeCop1, decodeFpS, zeroed]

theorem Laws.RoundTrip.cSeqS (ft : Reg) (fs : Reg) : Laws.RoundTrip.Statement (.cSeqS ft fs) := by
  simp [Laws.RoundTrip.Statement, encode, decode, decodeCop1, decodeFpS, zeroed]

theorem Laws.RoundTrip.cNglS (ft : Reg) (fs : Reg) : Laws.RoundTrip.Statement (.cNglS ft fs) := by
  simp [Laws.RoundTrip.Statement, encode, decode, decodeCop1, decodeFpS, zeroed]

theorem Laws.RoundTrip.cLtS (ft : Reg) (fs : Reg) : Laws.RoundTrip.Statement (.cLtS ft fs) := by
  simp [Laws.RoundTrip.Statement, encode, decode, decodeCop1, decodeFpS, zeroed]

theorem Laws.RoundTrip.cNgeS (ft : Reg) (fs : Reg) : Laws.RoundTrip.Statement (.cNgeS ft fs) := by
  simp [Laws.RoundTrip.Statement, encode, decode, decodeCop1, decodeFpS, zeroed]

theorem Laws.RoundTrip.cLeS (ft : Reg) (fs : Reg) : Laws.RoundTrip.Statement (.cLeS ft fs) := by
  simp [Laws.RoundTrip.Statement, encode, decode, decodeCop1, decodeFpS, zeroed]

theorem Laws.RoundTrip.cNgtS (ft : Reg) (fs : Reg) : Laws.RoundTrip.Statement (.cNgtS ft fs) := by
  simp [Laws.RoundTrip.Statement, encode, decode, decodeCop1, decodeFpS, zeroed]

theorem Laws.RoundTrip.cFD (ft : Reg) (fs : Reg) : Laws.RoundTrip.Statement (.cFD ft fs) := by
  simp [Laws.RoundTrip.Statement, encode, decode, decodeCop1, decodeFpD, zeroed]

theorem Laws.RoundTrip.cUnD (ft : Reg) (fs : Reg) : Laws.RoundTrip.Statement (.cUnD ft fs) := by
  simp [Laws.RoundTrip.Statement, encode, decode, decodeCop1, decodeFpD, zeroed]

theorem Laws.RoundTrip.cEqD (ft : Reg) (fs : Reg) : Laws.RoundTrip.Statement (.cEqD ft fs) := by
  simp [Laws.RoundTrip.Statement, encode, decode, decodeCop1, decodeFpD, zeroed]

theorem Laws.RoundTrip.cUeqD (ft : Reg) (fs : Reg) : Laws.RoundTrip.Statement (.cUeqD ft fs) := by
  simp [Laws.RoundTrip.Statement, encode, decode, decodeCop1, decodeFpD, zeroed]

theorem Laws.RoundTrip.cOltD (ft : Reg) (fs : Reg) : Laws.RoundTrip.Statement (.cOltD ft fs) := by
  simp [Laws.RoundTrip.Statement, encode, decode, decodeCop1, decodeFpD, zeroed]

theorem Laws.RoundTrip.cUltD (ft : Reg) (fs : Reg) : Laws.RoundTrip.Statement (.cUltD ft fs) := by
  simp [Laws.RoundTrip.Statement, encode, decode, decodeCop1, decodeFpD, zeroed]

theorem Laws.RoundTrip.cOleD (ft : Reg) (fs : Reg) : Laws.RoundTrip.Statement (.cOleD ft fs) := by
  simp [Laws.RoundTrip.Statement, encode, decode, decodeCop1, decodeFpD, zeroed]

theorem Laws.RoundTrip.cUleD (ft : Reg) (fs : Reg) : Laws.RoundTrip.Statement (.cUleD ft fs) := by
  simp [Laws.RoundTrip.Statement, encode, decode, decodeCop1, decodeFpD, zeroed]

theorem Laws.RoundTrip.cSfD (ft : Reg) (fs : Reg) : Laws.RoundTrip.Statement (.cSfD ft fs) := by
  simp [Laws.RoundTrip.Statement, encode, decode, decodeCop1, decodeFpD, zeroed]

theorem Laws.RoundTrip.cNgleD (ft : Reg) (fs : Reg) : Laws.RoundTrip.Statement (.cNgleD ft fs) := by
  simp [Laws.RoundTrip.Statement, encode, decode, decodeCop1, decodeFpD, zeroed]

theorem Laws.RoundTrip.cSeqD (ft : Reg) (fs : Reg) : Laws.RoundTrip.Statement (.cSeqD ft fs) := by
  simp [Laws.RoundTrip.Statement, encode, decode, decodeCop1, decodeFpD, zeroed]

theorem Laws.RoundTrip.cNglD (ft : Reg) (fs : Reg) : Laws.RoundTrip.Statement (.cNglD ft fs) := by
  simp [Laws.RoundTrip.Statement, encode, decode, decodeCop1, decodeFpD, zeroed]

theorem Laws.RoundTrip.cLtD (ft : Reg) (fs : Reg) : Laws.RoundTrip.Statement (.cLtD ft fs) := by
  simp [Laws.RoundTrip.Statement, encode, decode, decodeCop1, decodeFpD, zeroed]

theorem Laws.RoundTrip.cNgeD (ft : Reg) (fs : Reg) : Laws.RoundTrip.Statement (.cNgeD ft fs) := by
  simp [Laws.RoundTrip.Statement, encode, decode, decodeCop1, decodeFpD, zeroed]

theorem Laws.RoundTrip.cLeD (ft : Reg) (fs : Reg) : Laws.RoundTrip.Statement (.cLeD ft fs) := by
  simp [Laws.RoundTrip.Statement, encode, decode, decodeCop1, decodeFpD, zeroed]

theorem Laws.RoundTrip.cNgtD (ft : Reg) (fs : Reg) : Laws.RoundTrip.Statement (.cNgtD ft fs) := by
  simp [Laws.RoundTrip.Statement, encode, decode, decodeCop1, decodeFpD, zeroed]

end Sys2Proof
end

