-- ==== Sys2Proof/Machine/Boot.lean ====
section
/-! DEFINITION. Launch: the images, the cartridge_boot start state and the cartridge header
(spec/70_reset_and_hazards.md R630, R631; spec/20_memory.md R152). BOOT_MODE = cold_reset is State.reset. -/

namespace Sys2Proof.Machine

/-- The physical address of byte 0 of CART_ROM (spec/20_memory.md R150). -/
def cartBase : Nat := 0x10000000

/-- The physical address of byte 0 of PIF_ROM (spec/20_memory.md R150). -/
def pifRomBase : Nat := 0x1FC00000

/-- Install the launch inputs: the cartridge image and the boot ROM (spec/00_scope.md R6). -/
def loadImages (cart pifRom : List Byte) (s : State) : State :=
  setMemBytes pifRomBase (pifRom.take 0x7C0) (setMemBytes cartBase (cart.take 0x0FC00000) s)

/-- Copy n bytes of the image from offset `off` to SP_DMEM; a byte past its end becomes unspecified
(spec/70_reset_and_hazards.md R630). -/
def copyBootCode : (n off : Nat) → Memory → Memory
  | 0, _, m => m
  | n + 1, off, m =>
    let d := 0x04000000 + off
    copyBootCode n (off + 1)
      (match Memory.lookup (cartBase + off) m with
       | some b => Memory.write d b m
       | none => Memory.forget d d m)

/-- The cartridge_boot start state, made from a cold-reset state that holds the image
(spec/70_reset_and_hazards.md R630; log 21). It sets FR = 1 and leaves the floating-point cells as the cold reset did, so
a cell that counts as written under FR = 0 reads as any value in each tick until it is written (DESIGN CHOICE, log 42). -/
def cartridgeBoot (s : State) : State :=
  let t := { s with
    mem := copyBootCode 0xFC0 0x40 s.mem
    pc := 0xFFFFFFFFA4000040
    delay := none
    cp0 := { s.cp0 with status := 0x34000000 } }
  let t := writeGpr t 29 0xFFFFFFFFA4001FF0
  let t := writeGpr t 11 0xFFFFFFFFA4000040
  let t := writeGpr t 19 0
  let t := writeGpr t 20 (BitVec.ofNat 64 ((Config.free s.draws).toNat % 3))
  let t := writeGpr t 21 0
  let t := writeGpr t 22 (((Config.free (s.draws + 1)).extractLsb' 0 8).setWidth 64)
  let t := writeGpr t 23 0
  spendDraws 2 t

/-- A 32-bit field of the cartridge header, none when the image is shorter (spec/70_reset_and_hazards.md R631). -/
def headerWord (off : Nat) (s : State) : Option Word32 := do
  let b0 ← Memory.lookup (cartBase + off) s.mem
  let b1 ← Memory.lookup (cartBase + off + 1) s.mem
  let b2 ← Memory.lookup (cartBase + off + 2) s.mem
  let b3 ← Memory.lookup (cartBase + off + 3) s.mem
  pure (b0 ++ b1 ++ b2 ++ b3)

/-- The program entry point of the header, sign-extended (spec/70_reset_and_hazards.md R631). -/
def headerEntryPoint (s : State) : Option Word := (headerWord 0x08 s).map sextWord

end Sys2Proof.Machine
end

