-- ==== Sys2Proof/Machine/Video.lean ====
section
/-! DEFINITION. The visible size the video interface derives for the display: outputs no instruction can read
(spec/61_platform_devices.md R547). -/

namespace Sys2Proof.Machine

/-- The visible size of one axis: the default when the scale is zero, the free value `open_` when the end lies before the
start (spec/61_platform_devices.md R547; log 33). -/
def visibleAxis (default divisor : Nat) (range scale : Word32) (open_ : Word) : Nat :=
  let first := (range.extractLsb' 16 10).toNat
  let last := (range.extractLsb' 0 10).toNat
  let factor := (scale.extractLsb' 0 12).toNat
  if factor = 0 then default
  else if last < first then open_.toNat
  else (last - first) * factor / divisor

/-- VisibleWidth; its free value is one of its own (spec/61_platform_devices.md R547). -/
def visibleWidth (s : State) : Nat := visibleAxis 320 0x400 (writeSide .vi 9 s) (writeSide .vi 12 s) (Config.free s.draws)

/-- VisibleHeight; its free value is one of its own (spec/61_platform_devices.md R547). -/
def visibleHeight (s : State) : Nat := visibleAxis 240 0x800 (writeSide .vi 10 s) (writeSide .vi 13 s)
  (Config.free (s.draws + 1))

end Sys2Proof.Machine
end

