-- ==== Sys2Proof/WellFormed.lean ====
section
/-! DEFINITION. The static restrictions on an instruction (spec/43_branch_jump.md R332 (b), (c)).
Every field has the exact width the encoding gives it, so these two are all that is left to check.
A word that breaks one still decodes; its meaning refuses it by name. -/

namespace Sys2Proof

/-- JALR needs rd different from rs, a linking branch needs rs different from 31 (spec/43_branch_jump.md R332). -/
def Instr.wellFormed (i : Instr) : Bool :=
  match i with
  | .jalr rs rd => rd != rs
  | .bltzal rs _ => rs != 31
  | .bgezal rs _ => rs != 31
  | .bltzall rs _ => rs != 31
  | .bgezall rs _ => rs != 31
  | _ => true

/-- The static restrictions hold (spec/43_branch_jump.md R332). -/
abbrev WellFormed (i : Instr) : Prop := i.wellFormed = true

end Sys2Proof
end

