-- ==== Sys2Proof/Tests/Slice0.lean ====
section
/-! SUPPORT. Tests of the model on single words and single steps, and witnesses for the hypotheses of the statements.
Expected results are the spec's own vectors (spec/95_test_vectors.md, spec/96_test_vectors_system.md) or computed by
hand from the rule named beside the row. -/

namespace Sys2Proof.Tests

open Sys2Proof Sys2Proof.Machine

set_option Elab.async false


/-! ### Decoding: one word of every row of the opcode table (words of the examples of the rules and of the vectors of
spec/95_test_vectors.md and spec/96_test_vectors_system.md; the rest written out from the patterns of
spec/30_encoding.md) -/

def words1 : List (Word32 × Instr) := [
  (0x8128FFFF, .lb 9 8 0xFFFF), (0x9128FFFF, .lbu 9 8 0xFFFF), (0x85280002, .lh 9 8 2), (0x95280002, .lhu 9 8 2),
  (0x8D280004, .lw 9 8 4), (0x9D280004, .lwu 9 8 4), (0xDD280008, .ld 9 8 8), (0x89280001, .lwl 9 8 1),
  (0x99280004, .lwr 9 8 4), (0x69280001, .ldl 9 8 1), (0x6D280008, .ldr 9 8 8), (0xA1280003, .sb 9 8 3),
  (0xA5280002, .sh 9 8 2), (0xAD280000, .sw 9 8 0), (0xFD280008, .sd 9 8 8), (0xA9280001, .swl 9 8 1),
  (0xB9280004, .swr 9 8 4), (0xB1280001, .sdl 9 8 1), (0xB5280008, .sdr 9 8 8), (0xC1280000, .ll 9 8 0),
  (0xD1280000, .lld 9 8 0), (0xE1280000, .sc 9 8 0), (0xF1280000, .scd 9 8 0), (0x2128FFFF, .addi 9 8 0xFFFF),
  (0x25288000, .addiu 9 8 0x8000), (0x2928FFFF, .slti 9 8 0xFFFF), (0x2D28FFFF, .sltiu 9 8 0xFFFF),
  (0x3128FF00, .andi 9 8 0xFF00), (0x35288000, .ori 9 8 0x8000), (0x3928FFFF, .xori 9 8 0xFFFF),
  (0x61280001, .daddi 9 8 1), (0x6528FFFF, .daddiu 9 8 0xFFFF), (0x3C088000, .lui 8 0x8000),
  (0x012A4020, .add 9 0xA 8), (0x012A4021, .addu 9 0xA 8), (0x012A4022, .sub 9 0xA 8), (0x012A4023, .subu 9 0xA 8),
  (0x012A4024, .and 9 0xA 8), (0x012A4025, .or 9 0xA 8), (0x012A4026, .xor 9 0xA 8), (0x012A4027, .nor 9 0xA 8),
  (0x012A402A, .slt 9 0xA 8), (0x012A402B, .sltu 9 0xA 8), (0x012A402C, .dadd 9 0xA 8), (0x012A402D, .daddu 9 0xA 8),
  (0x012A402E, .dsub 9 0xA 8), (0x012A402F, .dsubu 9 0xA 8), (0x01494004, .sllv 0xA 9 8), (0x01494006, .srlv 0xA 9 8),
  (0x01494007, .srav 0xA 9 8), (0x01494014, .dsllv 0xA 9 8), (0x01494016, .dsrlv 0xA 9 8),
  (0x01494017, .dsrav 0xA 9 8), (0x00094100, .sll 9 8 4), (0x00094102, .srl 9 8 4), (0x00094103, .sra 9 8 4),
  (0x00094138, .dsll 9 8 4), (0x0009413A, .dsrl 9 8 4), (0x0009413B, .dsra 9 8 4), (0x0009413C, .dsll32 9 8 4),
  (0x0009413E, .dsrl32 9 8 4), (0x0009413F, .dsra32 9 8 4), (0x012A0018, .mult 9 0xA), (0x012A0019, .multu 9 0xA),
  (0x012A001C, .dmult 9 0xA), (0x012A001D, .dmultu 9 0xA), (0x012A001A, .div 9 0xA), (0x012A001B, .divu 9 0xA),
  (0x012A001E, .ddiv 9 0xA), (0x012A001F, .ddivu 9 0xA)]

def words2 : List (Word32 × Instr) := [
  (0x00004010, .mfhi 8), (0x01200011, .mthi 9), (0x00004012, .mflo 8), (0x01200013, .mtlo 9), (0x08000400, .j 0x400),
  (0x0C000400, .jal 0x400), (0x01200008, .jr 9), (0x0120F809, .jalr 9 0x1F), (0x112A0003, .beq 9 0xA 3),
  (0x152A0003, .bne 9 0xA 3), (0x512A0003, .beql 9 0xA 3), (0x552A0003, .bnel 9 0xA 3), (0x19200003, .blez 9 3),
  (0x1D200003, .bgtz 9 3), (0x59200003, .blezl 9 3), (0x5D200003, .bgtzl 9 3), (0x05200003, .bltz 9 3),
  (0x05210003, .bgez 9 3), (0x05300003, .bltzal 9 3), (0x05310003, .bgezal 9 3), (0x05320003, .bltzall 9 3),
  (0x05330003, .bgezall 9 3), (0x05220003, .bltzl 9 3), (0x05230003, .bgezl 9 3), (0x012A0030, .tge 9 0xA 0),
  (0x012A0031, .tgeu 9 0xA 0), (0x012A0032, .tlt 9 0xA 0), (0x012A0033, .tltu 9 0xA 0), (0x0109FFF4, .teq 8 9 0x3FF),
  (0x012A0036, .tne 9 0xA 0), (0x05280005, .tgei 9 5), (0x0529FFFF, .tgeiu 9 0xFFFF), (0x052AFFFF, .tlti 9 0xFFFF),
  (0x052BFFFF, .tltiu 9 0xFFFF), (0x052CFFFF, .teqi 9 0xFFFF), (0x052EFFFF, .tnei 9 0xFFFF), (0x0000000C, .syscall 0),
  (0x000001CD, .brk 7), (0x0000000F, .sync), (0xBD350000, .cache 9 0x15 0), (0x40086000, .mfc0 8 0xC),
  (0x40886000, .mtc0 8 0xC), (0x40287000, .dmfc0 8 0xE), (0x40A85000, .dmtc0 8 0xA), (0x42000001, .tlbr),
  (0x42000002, .tlbwi), (0x42000006, .tlbwr), (0x42000008, .tlbp), (0x42000018, .eret), (0xC5220004, .lwc1 9 2 4),
  (0xD5220008, .ldc1 9 2 8), (0xE5220004, .swc1 9 2 4), (0xF5220008, .sdc1 9 2 8), (0x44081000, .mfc1 8 2),
  (0x44281000, .dmfc1 8 2), (0x4448F800, .cfc1 8 0x1F), (0x44C8F800, .ctc1 8 0x1F), (0x44881000, .mtc1 8 2),
  (0x44A81000, .dmtc1 8 2), (0x45000003, .bc1f 3), (0x45010003, .bc1t 3), (0x45020003, .bc1fl 3),
  (0x45030003, .bc1tl 3), (0x46041000, .addS 4 2 0), (0x46241000, .addD 4 2 0), (0x46041001, .subS 4 2 0),
  (0x46241001, .subD 4 2 0), (0x46041002, .mulS 4 2 0), (0x46241002, .mulD 4 2 0), (0x46041003, .divS 4 2 0)]

def words3 : List (Word32 × Instr) := [
  (0x46241003, .divD 4 2 0), (0x46001004, .sqrtS 2 0), (0x46201004, .sqrtD 2 0), (0x46001005, .absS 2 0),
  (0x46201005, .absD 2 0), (0x46001006, .movS 2 0), (0x46201006, .movD 2 0), (0x46001007, .negS 2 0),
  (0x46201007, .negD 2 0), (0x46001008, .roundLS 2 0), (0x46201008, .roundLD 2 0), (0x46001009, .truncLS 2 0),
  (0x46201009, .truncLD 2 0), (0x4600100A, .ceilLS 2 0), (0x4620100A, .ceilLD 2 0), (0x4600100B, .floorLS 2 0),
  (0x4620100B, .floorLD 2 0), (0x4600100C, .roundWS 2 0), (0x4620100C, .roundWD 2 0), (0x4600100D, .truncWS 2 0),
  (0x4620100D, .truncWD 2 0), (0x4600100E, .ceilWS 2 0), (0x4620100E, .ceilWD 2 0), (0x4600100F, .floorWS 2 0),
  (0x4620100F, .floorWD 2 0), (0x46201020, .cvtSD 2 0), (0x46801020, .cvtSW 2 0), (0x46A01020, .cvtSL 2 0),
  (0x46001021, .cvtDS 2 0), (0x46801021, .cvtDW 2 0), (0x46A01021, .cvtDL 2 0), (0x46001024, .cvtWS 2 0),
  (0x46201024, .cvtWD 2 0), (0x46001025, .cvtLS 2 0), (0x46201025, .cvtLD 2 0), (0x46041030, .cFS 4 2),
  (0x46041031, .cUnS 4 2), (0x46041032, .cEqS 4 2), (0x46041033, .cUeqS 4 2), (0x46041034, .cOltS 4 2),
  (0x46041035, .cUltS 4 2), (0x46041036, .cOleS 4 2), (0x46041037, .cUleS 4 2), (0x46041038, .cSfS 4 2),
  (0x46041039, .cNgleS 4 2), (0x4604103A, .cSeqS 4 2), (0x4604103B, .cNglS 4 2), (0x4604103C, .cLtS 4 2),
  (0x4604103D, .cNgeS 4 2), (0x4604103E, .cLeS 4 2), (0x4604103F, .cNgtS 4 2), (0x46241030, .cFD 4 2),
  (0x46241031, .cUnD 4 2), (0x46241032, .cEqD 4 2), (0x46241033, .cUeqD 4 2), (0x46241034, .cOltD 4 2),
  (0x46241035, .cUltD 4 2), (0x46241036, .cOleD 4 2), (0x46241037, .cUleD 4 2), (0x46241038, .cSfD 4 2),
  (0x46241039, .cNgleD 4 2), (0x4624103A, .cSeqD 4 2), (0x4624103B, .cNglD 4 2), (0x4624103C, .cLtD 4 2),
  (0x4624103D, .cNgeD 4 2), (0x4624103E, .cLeD 4 2), (0x4624103F, .cNgtD 4 2)]

def words : List (Word32 × Instr) := words1 ++ words2 ++ words3

theorem test_decode_of_every_row : (words.all fun p => decode p.1 == .instr p.2) = true := by decide +kernel

theorem test_encode_of_every_row : (words.all fun p => encode p.2 == p.1) = true := by decide +kernel

theorem test_table_word_of_every_row :
    (words.all fun p => decodeTableWord 32 p.1.toNat == some p.2) = true := by decide +kernel

/-! ### Static restrictions (spec/43_branch_jump.md R332) -/

theorem test_jalr_same_register_is_ill_formed : (Instr.jalr 8 8).wellFormed = false := by decide
theorem test_bltzal_on_link_is_ill_formed : (Instr.bltzal 31 4).wellFormed = false := by decide
theorem test_bgezal_on_link_is_ill_formed : (Instr.bgezal 31 4).wellFormed = false := by decide
theorem test_bltzall_on_link_is_ill_formed : (Instr.bltzall 31 4).wellFormed = false := by decide
theorem test_bgezall_on_link_is_ill_formed : (Instr.bgezall 31 4).wellFormed = false := by decide
theorem test_every_row_is_well_formed : (words.all fun p => p.2.wellFormed) = true := by decide +kernel

/-! ### Single steps -/

/-- The start state of the vectors: PC in kseg0, kernel mode, CU0 CU1 FR (spec/95_test_vectors.md). -/
def base : State := { State.reset with
  pc := 0xFFFFFFFF80000400
  fgrLowFr := Vector.replicate 32 true
  fgrHighFr := Vector.replicate 32 true
  cp0 := { Cp0.reset with status := 0x34000000 } }

def x (r : Reg) (v : Word) (s : State) : State := writeGpr s r v
def fg (r : Reg) (v : Word) (s : State) : State := writeCell s r v
def bytes (a : Nat) (l : List Byte) (s : State) : State := setMemBytes a l s
/-- Status as it was when the floating-point registers were written. -/
def status (v : Word32) (s : State) : State := { s with
  fgrLowFr := Vector.replicate 32 (statusFr v)
  fgrHighFr := Vector.replicate 32 (statusFr v)
  cp0 := { s.cp0 with status := v } }
/-- Status changed afterwards. -/
def nowStatus (v : Word32) (s : State) : State := { s with cp0 := { s.cp0 with status := v } }
def slot (target : Word) (s : State) : State := { s with delay := some target }
def c0 (n : Reg) (v : Word) (s : State) : State :=
  match cop0Write n v s with
  | .ok t => t
  | .error _ => s
def cause (v : Word32) (s : State) : State := { s with cp0 := { s.cp0 with cause :=
  { bd := v.getLsbD 31, ce := v.extractLsb' 28 2, ip := v.extractLsb' 8 8, excCode := v.extractLsb' 2 5 } } }

/-- RDRAM 0x1000 to 0x100F of the load and store vectors, and x[9] at its first byte. -/
def ramp (s : State) : State :=
  bytes 0x1000 [0x80, 0x81, 0x82, 0x83, 0x84, 0x85, 0x86, 0x87, 8, 9, 10, 11, 12, 13, 14, 15]
    (x 9 0xFFFFFFFF80001000 s)

/-- A page that maps, valid and writable. -/
def page (frame : BitVec 24) : TlbPage := { pfn := frame, c := 3, d := true, v := true }

/-- The entry that vector TL1 writes. -/
def pair : TlbEntry := { mask := 0, r := 0, vpn2 := 1, asid := 0, g := true, page0 := page 0x40, page1 := TlbPage.invalid }

/-- User mode of the vectors LS55: PC 0x400, and TLB[0] maps the low two pages onto themselves. -/
def user (v : Word32) (s : State) : State := status v { s with
  pc := 0x400
  tlb := s.tlb.set 0 { mask := 0, r := 0, vpn2 := 0, asid := 0, g := true, page0 := page 0, page1 := page 1 } }

/-- One thing to find in the state after a step. -/
inductive Want where
  | gpr (r : Reg) (v : Word)
  | hi (v : Word)
  | lo (v : Word)
  | pc (v : Word)
  | delay (v : Option Word)
  | cell (r : Reg) (v : Word)
  | f32 (r : Reg) (v : Word32)
  | fcr31 (v : Word32)
  | llbit (v : Bool)
  | mem (a : Nat) (l : List Byte)
  | cop0 (n : Nat) (v : Word)
  | entry (n : Fin 32) (e : TlbEntry)
  | entered (code : BitVec 5) (bd : Bool) (epc pc : Word)
  | ce (v : BitVec 2)
  | ip (v : BitVec 8)
  | latch (n : Fin 4) (l : Latch)
  | fault (f : Fault)
  | dmaFault (p : PAddr) (copied a : Nat) (l : List Byte)
  | refused (r : Refusal)

def holds (s : State) (w : Want) : Bool :=
  match w with
  | .gpr r v => readGpr s r == v
  | .hi v => s.hi == v
  | .lo v => s.lo == v
  | .pc v => s.pc == v
  | .delay v => s.delay == v
  | .cell r v => cell s r == v
  | .f32 r v => readF32 s r == v
  | .fcr31 v => s.fcr31 == v
  | .llbit v => s.llbit == v
  | .mem a l => l.zipIdx.all fun p => Memory.lookup (a + p.2) s.mem == some p.1
  | .cop0 n v => cop0Image n s.cp0 == v
  | .entry n e => s.tlb[n] == e
  | .entered code bd epc vector => s.cp0.cause.excCode == code && s.cp0.cause.bd == bd && s.cp0.epc == epc &&
      s.pc == vector &&
      s.delay == none && s.cp0.status.getLsbD 1
  | .ce v => s.cp0.cause.ce == v
  | .ip v => s.cp0.cause.ip == v
  | .latch n l => s.latch[n] == l
  | .fault _ => false
  | .dmaFault _ _ _ _ => false
  | .refused _ => false

/-- A step from the base state, the word fetched, and what it must leave. -/
structure Row where
  setup : List (State → State)
  word  : Word32
  want  : List Want

def Row.start (r : Row) : State := (r.setup.foldl (fun s f => f s) base).withFetchWord 32 r.word.toNat

def meets (want : List Want) (r : Result) : Bool :=
  match r, want with
  | .next t, l => l.all (holds t)
  | .fault (.busFault p), [.fault (.busFault q)] => p == q
  | .fault (.dmaBusFault p n t), [.dmaFault q m a l] => p == q && n == m && holds t (.mem a l)
  | .refused q, [.refused p] => q == p
  | _, _ => false

/-- The instruction step of a row. -/
def passes (r : Row) : Bool := meets r.want (instructionStep (beginTick r.start))

/-- A whole tick in which Count counts. -/
def passesTick (r : Row) : Bool := meets r.want (match instructionStep (beginTick r.start) with
  | .next t => .next (interruptService true (timerStep true true t))
  | q => q)


/-- Vectors LS1 to LS62 of the spec, one step each. -/
def loadStoreRows : List Row := [
  ⟨[ramp], 0x81280000, [.gpr 8 0xFFFFFFFFFFFFFF80]⟩,  -- LS1
  ⟨[ramp], 0x91280000, [.gpr 8 0x0000000000000080]⟩,  -- LS2
  ⟨[ramp], 0x85280002, [.gpr 8 0xFFFFFFFFFFFF8283]⟩,  -- LS3
  ⟨[ramp], 0x95280002, [.gpr 8 0x0000000000008283]⟩,  -- LS4
  ⟨[ramp], 0x8D280004, [.gpr 8 0xFFFFFFFF84858687]⟩,  -- LS5
  ⟨[ramp], 0x9D280004, [.gpr 8 0x0000000084858687]⟩,  -- LS6
  ⟨[ramp], 0xDD280000, [.gpr 8 0x8081828384858687]⟩,  -- LS7
  ⟨[ramp, x 9 0xFFFFFFFF80001008], 0x8D28FFFC, [.gpr 8 0xFFFFFFFF84858687]⟩,  -- LS8
  ⟨[ramp], 0x85280001, [.entered 4 false 0xFFFFFFFF80000400 0xFFFFFFFF80000180, .cop0 8 0xFFFFFFFF80001001]⟩,  -- LS10
  ⟨[ramp], 0xDD280004, [.entered 4 false 0xFFFFFFFF80000400 0xFFFFFFFF80000180, .cop0 8 0xFFFFFFFF80001004]⟩,  -- LS11
  ⟨[ramp, x 8 0x1111111122222222], 0x89280000, [.gpr 8 0xFFFFFFFF80818283]⟩,  -- LS13
  ⟨[ramp, x 8 0x1111111122222222], 0x89280001, [.gpr 8 0xFFFFFFFF81828322]⟩,  -- LS14
  ⟨[ramp, x 8 0x1111111122222222], 0x99280000, [.gpr 8 0x0000000022222280]⟩,  -- LS17
  ⟨[ramp, x 8 0x1111111122222222], 0x99280001, [.gpr 8 0x0000000022228081]⟩,  -- LS18
  ⟨[ramp, x 8 0x1111111122222222], 0x69280000, [.gpr 8 0x8081828384858687]⟩,  -- LS21
  ⟨[ramp, x 8 0x1111111122222222], 0x69280003, [.gpr 8 0x8384858687222222]⟩,  -- LS22
  ⟨[ramp, x 8 0x1111111122222222], 0x6D280000, [.gpr 8 0x1111111122222280]⟩,  -- LS24
  ⟨[ramp, x 8 0x1111111122222222], 0x6D280003, [.gpr 8 0x1111111180818283]⟩,  -- LS25
  ⟨[ramp, x 8 0xA1A2A3A4A5A6A7A8], 0xA1280001, [.mem 0x1001 [0xA8]]⟩,  -- LS30
  ⟨[ramp, x 8 0xA1A2A3A4A5A6A7A8], 0xA5280002, [.mem 0x1002 [0xA7, 0xA8]]⟩,  -- LS31
  ⟨[ramp, x 8 0xA1A2A3A4A5A6A7A8], 0xAD280004, [.mem 0x1004 [0xA5, 0xA6, 0xA7, 0xA8]]⟩,  -- LS32
  -- LS33
  ⟨[ramp, x 8 0xA1A2A3A4A5A6A7A8], 0xFD280008,
    [.mem 0x1008 [0xA1, 0xA2, 0xA3, 0xA4, 0xA5, 0xA6, 0xA7, 0xA8]]⟩,
  -- LS34
  ⟨[ramp, x 8 0xA1A2A3A4A5A6A7A8], 0xAD280006,
    [.entered 5 false 0xFFFFFFFF80000400 0xFFFFFFFF80000180, .cop0 8 0xFFFFFFFF80001006]⟩,
  -- LS35
  ⟨[ramp, x 8 0xA1A2A3A4A5A6A7A8], 0xA5280003,
    [.entered 5 false 0xFFFFFFFF80000400 0xFFFFFFFF80000180, .cop0 8 0xFFFFFFFF80001003]⟩,
  ⟨[ramp, x 8 0xA1A2A3A4A5A6A7A8], 0xA9280000, [.mem 0x1000 [0xA5, 0xA6, 0xA7, 0xA8]]⟩,  -- LS36
  ⟨[ramp, x 8 0xA1A2A3A4A5A6A7A8], 0xA9280001, [.mem 0x1001 [0xA5, 0xA6, 0xA7]]⟩,  -- LS37
  ⟨[ramp, x 8 0xA1A2A3A4A5A6A7A8], 0xB9280000, [.mem 0x1000 [0xA8]]⟩,  -- LS40
  ⟨[ramp, x 8 0xA1A2A3A4A5A6A7A8], 0xB9280001, [.mem 0x1000 [0xA7, 0xA8]]⟩,  -- LS41
  -- LS44
  ⟨[ramp, x 8 0xA1A2A3A4A5A6A7A8], 0xB1280000,
    [.mem 0x1000 [0xA1, 0xA2, 0xA3, 0xA4, 0xA5, 0xA6, 0xA7, 0xA8]]⟩,
  ⟨[ramp, x 8 0xA1A2A3A4A5A6A7A8], 0xB1280003, [.mem 0x1003 [0xA1, 0xA2, 0xA3, 0xA4, 0xA5]]⟩,  -- LS45
  ⟨[ramp, x 8 0xA1A2A3A4A5A6A7A8], 0xB5280000, [.mem 0x1000 [0xA8]]⟩,  -- LS47
  ⟨[ramp, x 8 0xA1A2A3A4A5A6A7A8], 0xB5280003, [.mem 0x1000 [0xA5, 0xA6, 0xA7, 0xA8]]⟩,  -- LS48
  ⟨[ramp], 0xC1280004, [.gpr 8 0xFFFFFFFF84858687, .cop0 17 0x00000100, .llbit true]⟩,  -- LS50
  -- LS51
  ⟨[ramp, x 8 0xA1A2A3A4A5A6A7A8, fun s => { s with llbit := true }], 0xE1280004,
    [.gpr 8 0x0000000000000001, .mem 0x1004 [0xA5, 0xA6, 0xA7, 0xA8]]⟩,
  ⟨[ramp, x 8 0xA1A2A3A4A5A6A7A8], 0xE1280004, [.gpr 8 0x0000000000000000]⟩,  -- LS52
  ⟨[ramp], 0xD1280008, [.gpr 8 0x08090A0B0C0D0E0F, .cop0 17 0x00000100, .llbit true]⟩,  -- LS53
  -- LS54
  ⟨[ramp, x 8 0xA1A2A3A4A5A6A7A8, fun s => { s with llbit := true }], 0xF1280008,
    [.gpr 8 0x0000000000000001, .mem 0x1008 [0xA1, 0xA2, 0xA3, 0xA4, 0xA5, 0xA6, 0xA7, 0xA8]]⟩,
  -- LS55
  ⟨[ramp, user 0x34000010, x 9 0x1000], 0xDD280000,
    [.entered 10 false 0x0000000000000400 0xFFFFFFFF80000180]⟩,
  -- LS55b
  ⟨[ramp, user 0x34000010, x 9 0xFFFFFFFF80001000], 0x8D280000,
    [.entered 4 false 0x0000000000000400 0xFFFFFFFF80000180, .cop0 8 0xFFFFFFFF80001000]⟩,
  ⟨[ramp, x 9 0xFFFFFFFFA5000000], 0x8D280000, [.fault (.busFault 0x05000000)]⟩,  -- LS58
  ⟨[ramp, x 9 0xFFFFFFFF80400000], 0x8D280000, [.fault (.busFault 0x00400000)]⟩,  -- LS59
  -- LS61
  ⟨[ramp, x 9 0x2004], 0x8D280000,
    [.entered 2 false 0xFFFFFFFF80000400 0xFFFFFFFF80000000, .cop0 8 0x0000000000002004,
     .cop0 10 0x0000000000002000, .cop0 4 0x0000000000000010, .cop0 20 0x0000000000000010]⟩,
  ⟨[ramp, status 0x34000004, x 9 0x1004], 0x8D280000, [.gpr 8 0xFFFFFFFF84858687]⟩]  -- LS62

theorem test_loadStore : loadStoreRows.all passes = true := by decide +kernel

/-- Vectors AL1 to AL35 of the spec, one step each. -/
def arithmeticRows : List Row := [
  ⟨[x 8 0x7FFFFFFF, x 9 0x1], 0x01095020, [.entered 12 false 0xFFFFFFFF80000400 0xFFFFFFFF80000180]⟩,  -- AL1
  ⟨[x 8 0x7FFFFFFF, x 9 0x1], 0x01095021, [.gpr 10 0xFFFFFFFF80000000]⟩,  -- AL2
  ⟨[x 8 0xFFFFFFFFFFFFFFFF, x 9 0x1], 0x01095020, [.gpr 10 0x0000000000000000]⟩,  -- AL3
  ⟨[x 8 0x100000000, x 9 0x1], 0x01095020, [.refused .notSignExtended]⟩,  -- AL4
  ⟨[x 8 0xFFFFFFFF80000000, x 9 0x1], 0x01095022, [.entered 12 false 0xFFFFFFFF80000400 0xFFFFFFFF80000180]⟩,  -- AL5
  ⟨[x 8 0xFFFFFFFF80000000, x 9 0x1], 0x01095023, [.gpr 10 0x000000007FFFFFFF]⟩,  -- AL6
  ⟨[x 8 0xFFFFFFFF80000000], 0x2109FFFF, [.entered 12 false 0xFFFFFFFF80000400 0xFFFFFFFF80000180]⟩,  -- AL7
  ⟨[x 8 0xFFFFFFFF80000000], 0x2509FFFF, [.gpr 9 0x000000007FFFFFFF]⟩,  -- AL8
  ⟨[x 8 0x7FFFFFFF], 0x25097FFF, [.gpr 9 0xFFFFFFFF80007FFE]⟩,  -- AL9
  ⟨[x 8 0x7FFFFFFFFFFFFFFF, x 9 0x1], 0x0109502C, [.entered 12 false 0xFFFFFFFF80000400 0xFFFFFFFF80000180]⟩,  -- AL10
  ⟨[x 8 0x7FFFFFFFFFFFFFFF, x 9 0x1], 0x0109502D, [.gpr 10 0x8000000000000000]⟩,  -- AL11
  ⟨[x 8 0x8000000000000000], 0x6109FFFF, [.entered 12 false 0xFFFFFFFF80000400 0xFFFFFFFF80000180]⟩,  -- AL12
  ⟨[x 8 0x8000000000000000], 0x6509FFFF, [.gpr 9 0x7FFFFFFFFFFFFFFF]⟩,  -- AL13
  ⟨[x 8 0x8000000000000000, x 9 0x1], 0x0109502E, [.entered 12 false 0xFFFFFFFF80000400 0xFFFFFFFF80000180]⟩,  -- AL14
  ⟨[x 8 0x0, x 9 0x1], 0x0109502F, [.gpr 10 0xFFFFFFFFFFFFFFFF]⟩,  -- AL15
  -- AL16
  ⟨[user 0x34000010, x 8 0x5, x 9 0x7], 0x0109502D,
    [.entered 10 false 0x0000000000000400 0xFFFFFFFF80000180]⟩,
  ⟨[x 8 0xFFFF0000FF00F0F0, x 9 0xF0F0F0F0F0F0F0F], 0x01095024, [.gpr 10 0x0F0F00000F000000]⟩,  -- AL20
  ⟨[x 8 0xFFFF0000FF00F0F0, x 9 0xF0F0F0F0F0F0F0F], 0x01095025, [.gpr 10 0xFFFF0F0FFF0FFFFF]⟩,  -- AL21
  ⟨[x 8 0xFFFF0000FF00F0F0, x 9 0xF0F0F0F0F0F0F0F], 0x01095026, [.gpr 10 0xF0F00F0FF00FFFFF]⟩,  -- AL22
  ⟨[x 8 0xFFFF0000FF00F0F0, x 9 0xF0F0F0F0F0F0F0F], 0x01095027, [.gpr 10 0x0000F0F000F00000]⟩,  -- AL23
  ⟨[x 8 0xFFFF0000FF00F0F0], 0x3109FFFF, [.gpr 9 0x000000000000F0F0]⟩,  -- AL24
  ⟨[x 8 0xFFFF0000FF00F0F0], 0x35098001, [.gpr 9 0xFFFF0000FF00F0F1]⟩,  -- AL25
  ⟨[x 8 0xFFFF0000FF00F0F0], 0x3909FFFF, [.gpr 9 0xFFFF0000FF000F0F]⟩,  -- AL26
  ⟨[], 0x3C098000, [.gpr 9 0xFFFFFFFF80000000]⟩,  -- AL27
  ⟨[], 0x3C097FFF, [.gpr 9 0x000000007FFF0000]⟩,  -- AL28
  ⟨[x 8 0xFFFFFFFFFFFFFFFF, x 9 0x1], 0x0109502A, [.gpr 10 0x0000000000000001]⟩,  -- AL29
  ⟨[x 8 0xFFFFFFFFFFFFFFFF, x 9 0x1], 0x0109502B, [.gpr 10 0x0000000000000000]⟩,  -- AL30
  ⟨[x 8 0x100000000, x 9 0xFFFFFFFF], 0x0109502A, [.gpr 10 0x0000000000000000]⟩,  -- AL31
  ⟨[x 8 0xFFFFFFFFFFFFFFFE], 0x2909FFFF, [.gpr 9 0x0000000000000001]⟩,  -- AL33
  ⟨[x 8 0xFFFFFFFF], 0x2D09FFFF, [.gpr 9 0x0000000000000001]⟩,  -- AL34
  ⟨[x 8 0xFFFFFFFFFFFFFFFF], 0x2D09FFFF, [.gpr 9 0x0000000000000000]⟩]  -- AL35

theorem test_arithmetic : arithmeticRows.all passes = true := by decide +kernel

/-- Vectors SH1 to SH22 of the spec, one step each. -/
def shiftsRows : List Row := [
  ⟨[x 8 0xFFFFFFFF80000001], 0x00085040, [.gpr 10 0x0000000000000002]⟩,  -- SH1
  ⟨[x 8 0xFFFFFFFF80000001], 0x000857C0, [.gpr 10 0xFFFFFFFF80000000]⟩,  -- SH2
  ⟨[x 8 0xFFFFFFFF80000001], 0x00085042, [.gpr 10 0x0000000040000000]⟩,  -- SH4
  ⟨[x 8 0xFFFFFFFF80000001], 0x00085002, [.gpr 10 0xFFFFFFFF80000001]⟩,  -- SH5
  ⟨[x 8 0xFFFFFFFF80000001], 0x00085043, [.gpr 10 0xFFFFFFFFC0000000]⟩,  -- SH6
  ⟨[x 8 0xFFFFFFFF80000001], 0x000857C3, [.gpr 10 0xFFFFFFFFFFFFFFFF]⟩,  -- SH7
  ⟨[x 8 0x1, x 9 0x21], 0x01285004, [.gpr 10 0x0000000000000002]⟩,  -- SH9
  ⟨[x 8 0xFFFFFFFF80000001, x 9 0xFFFFFFFFFFFFFFE4], 0x01285006, [.gpr 10 0x0000000008000000]⟩,  -- SH10
  ⟨[x 8 0xFFFFFFFF80000001, x 9 0x24], 0x01285007, [.gpr 10 0xFFFFFFFFF8000000]⟩,  -- SH11
  ⟨[x 8 0x8000000000000001], 0x00085138, [.gpr 10 0x0000000000000010]⟩,  -- SH12
  ⟨[x 8 0x8000000000000001], 0x0008513A, [.gpr 10 0x0800000000000000]⟩,  -- SH13
  ⟨[x 8 0x8000000000000001], 0x0008513B, [.gpr 10 0xF800000000000000]⟩,  -- SH14
  ⟨[x 8 0x8000000000000001], 0x0008503C, [.gpr 10 0x0000000100000000]⟩,  -- SH15
  ⟨[x 8 0x8000000000000001], 0x000857FC, [.gpr 10 0x8000000000000000]⟩,  -- SH16
  ⟨[x 8 0x8000000000000001], 0x000857FE, [.gpr 10 0x0000000000000001]⟩,  -- SH17
  ⟨[x 8 0x8000000000000001], 0x000857FF, [.gpr 10 0xFFFFFFFFFFFFFFFF]⟩,  -- SH18
  ⟨[x 8 0x8000000000000001], 0x0008503F, [.gpr 10 0xFFFFFFFF80000000]⟩,  -- SH19
  ⟨[x 8 0x1, x 9 0x41], 0x01285014, [.gpr 10 0x0000000000000002]⟩,  -- SH20
  ⟨[x 8 0x8000000000000001, x 9 0x3F], 0x01285016, [.gpr 10 0x0000000000000001]⟩,  -- SH21
  ⟨[x 8 0x8000000000000001, x 9 0x3F], 0x01285017, [.gpr 10 0xFFFFFFFFFFFFFFFF]⟩]  -- SH22

theorem test_shifts : shiftsRows.all passes = true := by decide +kernel

/-- Vectors MD1 to MD23 of the spec, one step each. -/
def mulDivRows : List Row := [
  -- MD1
  ⟨[fun s => { s with hi := 0x5555555555555555, lo := 0x5555555555555555 }, x 8 0xFFFFFFFFFFFFFFFE, x 9 0x3], 0x01090018,
    [.hi 0xFFFFFFFFFFFFFFFF, .lo 0xFFFFFFFFFFFFFFFA]⟩,
  -- MD2
  ⟨[fun s => { s with hi := 0x5555555555555555, lo := 0x5555555555555555 }, x 8 0xFFFFFFFFFFFFFFFE, x 9 0x3], 0x01090019,
    [.hi 0x0000000000000002, .lo 0xFFFFFFFFFFFFFFFA]⟩,
  -- MD3
  ⟨[fun s => { s with hi := 0x5555555555555555, lo := 0x5555555555555555 }, x 8 0xFFFFFFFF80000000,
    x 9 0xFFFFFFFF80000000], 0x01090018,
    [.hi 0x0000000040000000, .lo 0x0000000000000000]⟩,
  -- MD4
  ⟨[fun s => { s with hi := 0x5555555555555555, lo := 0x5555555555555555 }, x 8 0xFFFFFFFFFFFFFFFF,
    x 9 0xFFFFFFFFFFFFFFFF], 0x01090019,
    [.hi 0xFFFFFFFFFFFFFFFE, .lo 0x0000000000000001]⟩,
  -- MD6
  ⟨[fun s => { s with hi := 0x5555555555555555, lo := 0x5555555555555555 }, x 8 0xFFFFFFFFFFFFFFFF,
    x 9 0x7FFFFFFFFFFFFFFF], 0x0109001C,
    [.hi 0xFFFFFFFFFFFFFFFF, .lo 0x8000000000000001]⟩,
  -- MD7
  ⟨[fun s => { s with hi := 0x5555555555555555, lo := 0x5555555555555555 }, x 8 0xFFFFFFFFFFFFFFFF,
    x 9 0xFFFFFFFFFFFFFFFF], 0x0109001D,
    [.hi 0xFFFFFFFFFFFFFFFE, .lo 0x0000000000000001]⟩,
  -- MD8
  ⟨[fun s => { s with hi := 0x5555555555555555, lo := 0x5555555555555555 }, x 8 0x7, x 9 0xFFFFFFFFFFFFFFFE], 0x0109001A,
    [.hi 0x0000000000000001, .lo 0xFFFFFFFFFFFFFFFD]⟩,
  -- MD9
  ⟨[fun s => { s with hi := 0x5555555555555555, lo := 0x5555555555555555 }, x 8 0xFFFFFFFFFFFFFFF9, x 9 0x2], 0x0109001A,
    [.hi 0xFFFFFFFFFFFFFFFF, .lo 0xFFFFFFFFFFFFFFFD]⟩,
  -- MD10
  ⟨[fun s => { s with hi := 0x5555555555555555, lo := 0x5555555555555555 }, x 8 0xFFFFFFFFFFFFFFF9, x 9 0x2], 0x0109001B,
    [.hi 0x0000000000000001, .lo 0x000000007FFFFFFC]⟩,
  -- MD15
  ⟨[fun s => { s with hi := 0x5555555555555555, lo := 0x5555555555555555 }, x 8 0xFFFFFFFFFFFFFFF9, x 9 0x2], 0x0109001E,
    [.hi 0xFFFFFFFFFFFFFFFF, .lo 0xFFFFFFFFFFFFFFFD]⟩,
  -- MD16
  ⟨[fun s => { s with hi := 0x5555555555555555, lo := 0x5555555555555555 }, x 8 0xFFFFFFFFFFFFFFF9, x 9 0x2], 0x0109001F,
    [.hi 0x0000000000000001, .lo 0x7FFFFFFFFFFFFFFC]⟩,
  -- MD20
  ⟨[fun s => { s with hi := 0x5555555555555555, lo := 0x5555555555555555 },
    fun s => { s with hi := 0x123456789ABCDEF }], 0x00005010,
    [.gpr 10 0x0123456789ABCDEF]⟩,
  -- MD21
  ⟨[fun s => { s with hi := 0x5555555555555555, lo := 0x5555555555555555 },
    fun s => { s with lo := 0xFEDCBA9876543210 }], 0x00005012,
    [.gpr 10 0xFEDCBA9876543210]⟩,
  -- MD22
  ⟨[fun s => { s with hi := 0x5555555555555555, lo := 0x5555555555555555 }, x 8 0x100000000], 0x01000011,
    [.hi 0x0000000100000000]⟩,
  -- MD23
  ⟨[fun s => { s with hi := 0x5555555555555555, lo := 0x5555555555555555 }, x 8 0xFFFFFFFFFFFFFFFF], 0x01000013,
    [.lo 0xFFFFFFFFFFFFFFFF]⟩]

theorem test_mulDiv : mulDivRows.all passes = true := by decide +kernel

/-- Vectors BR1 to BR34 of the spec, one step each. -/
def branchesRows : List Row := [
  ⟨[x 8 0x5, x 9 0x5], 0x11090004, [.pc 0xFFFFFFFF80000404, .delay (some 0xFFFFFFFF80000414)]⟩,  -- BR1
  ⟨[x 8 0x5, x 9 0x6], 0x11090004, [.pc 0xFFFFFFFF80000404, .delay (some 0xFFFFFFFF80000408)]⟩,  -- BR2
  ⟨[x 8 0x5, x 9 0x6], 0x1509FFFE, [.pc 0xFFFFFFFF80000404, .delay (some 0xFFFFFFFF800003FC)]⟩,  -- BR3
  ⟨[x 8 0x5, x 9 0x6], 0x51090004, [.pc 0xFFFFFFFF80000408, .delay none]⟩,  -- BR5
  ⟨[x 8 0x5, x 9 0x5], 0x51090004, [.pc 0xFFFFFFFF80000404, .delay (some 0xFFFFFFFF80000414)]⟩,  -- BR6
  ⟨[x 8 0x5, x 9 0x5], 0x55090004, [.pc 0xFFFFFFFF80000408, .delay none]⟩,  -- BR7
  ⟨[x 8 0x0], 0x19000004, [.pc 0xFFFFFFFF80000404, .delay (some 0xFFFFFFFF80000414)]⟩,  -- BR8
  ⟨[x 8 0x0], 0x1D000004, [.pc 0xFFFFFFFF80000404, .delay (some 0xFFFFFFFF80000408)]⟩,  -- BR9
  ⟨[x 8 0x8000000000000000], 0x05000004, [.pc 0xFFFFFFFF80000404, .delay (some 0xFFFFFFFF80000414)]⟩,  -- BR10
  ⟨[x 8 0x80000000], 0x05010004, [.pc 0xFFFFFFFF80000404, .delay (some 0xFFFFFFFF80000414)]⟩,  -- BR11
  ⟨[x 8 0x1], 0x59000004, [.pc 0xFFFFFFFF80000408, .delay none]⟩,  -- BR12
  ⟨[x 8 0x1], 0x5D000004, [.pc 0xFFFFFFFF80000404, .delay (some 0xFFFFFFFF80000414)]⟩,  -- BR13
  ⟨[x 8 0x0], 0x05020004, [.pc 0xFFFFFFFF80000408, .delay none]⟩,  -- BR14
  ⟨[x 8 0x0], 0x05030004, [.pc 0xFFFFFFFF80000404, .delay (some 0xFFFFFFFF80000414)]⟩,  -- BR15
  -- BR16
  ⟨[x 8 0xFFFFFFFFFFFFFFFF], 0x05100004,
    [.gpr 31 0xFFFFFFFF80000408, .pc 0xFFFFFFFF80000404, .delay (some 0xFFFFFFFF80000414)]⟩,
  -- BR17
  ⟨[x 8 0x1], 0x05100004,
    [.gpr 31 0xFFFFFFFF80000408, .pc 0xFFFFFFFF80000404, .delay (some 0xFFFFFFFF80000408)]⟩,
  -- BR18
  ⟨[x 8 0x0], 0x05110004,
    [.gpr 31 0xFFFFFFFF80000408, .pc 0xFFFFFFFF80000404, .delay (some 0xFFFFFFFF80000414)]⟩,
  ⟨[], 0x04110004, [.gpr 31 0xFFFFFFFF80000408, .pc 0xFFFFFFFF80000404, .delay (some 0xFFFFFFFF80000414)]⟩,  -- BR19
  ⟨[x 8 0x1], 0x05120004, [.gpr 31 0xFFFFFFFF80000408, .pc 0xFFFFFFFF80000408, .delay none]⟩,  -- BR20
  -- BR21
  ⟨[x 8 0x1], 0x05130004,
    [.gpr 31 0xFFFFFFFF80000408, .pc 0xFFFFFFFF80000404, .delay (some 0xFFFFFFFF80000414)]⟩,
  ⟨[x 31 0x0], 0x07F10004, [.refused .linkingBranchOnLink]⟩,  -- BR22
  ⟨[], 0x08000040, [.pc 0xFFFFFFFF80000404, .delay (some 0xFFFFFFFF80000100)]⟩,  -- BR23
  -- BR24
  ⟨[fun s => { s with pc := 268435452 },
    fun s => { s with tlb := s.tlb.set 0 { mask := 0, r := 0, vpn2 := 0x7FFF, asid := 0, g := true, page0 := TlbPage.invalid, page1 := ⟨0,0,false,true⟩ } }], 0x0BFFFFFF,
    [.pc 0x0000000010000000, .delay (some 0x000000001FFFFFFC)]⟩,
  ⟨[], 0x0C000800, [.gpr 31 0xFFFFFFFF80000408, .pc 0xFFFFFFFF80000404, .delay (some 0xFFFFFFFF80002000)]⟩,  -- BR25
  ⟨[x 8 0xFFFFFFFF80002000], 0x01000008, [.pc 0xFFFFFFFF80000404, .delay (some 0xFFFFFFFF80002000)]⟩,  -- BR26
  ⟨[x 8 0xFFFFFFFF80002002], 0x01000008, [.pc 0xFFFFFFFF80000404, .delay (some 0xFFFFFFFF80002002)]⟩,  -- BR27
  -- BR28
  ⟨[x 8 0xFFFFFFFF80002000], 0x0100F809,
    [.gpr 31 0xFFFFFFFF80000408, .pc 0xFFFFFFFF80000404, .delay (some 0xFFFFFFFF80002000)]⟩,
  -- BR29
  ⟨[x 8 0xFFFFFFFF80002000], 0x01005009,
    [.gpr 10 0xFFFFFFFF80000408, .pc 0xFFFFFFFF80000404, .delay (some 0xFFFFFFFF80002000)]⟩,
  ⟨[x 8 0xFFFFFFFF80002000], 0x01004009, [.refused .jalrSameRegister]⟩,  -- BR30
  ⟨[slot 0xFFFFFFFF80003000], 0x10000004, [.refused .branchInDelaySlot]⟩,  -- BR31
  -- BR33
  ⟨[x 8 0x1, slot 0xFFFFFFFF80003000], 0x25080001,
    [.gpr 8 0x0000000000000002, .pc 0xFFFFFFFF80003000, .delay none]⟩,
  -- BR34
  ⟨[x 8 0x1, fun s => { s with pc := 0xFFFFFFFF80002002 }], 0x25080001,
    [.entered 4 false 0xFFFFFFFF80002002 0xFFFFFFFF80000180, .cop0 8 0xFFFFFFFF80002002]⟩]

theorem test_branches : branchesRows.all passes = true := by decide +kernel

/-- Vectors TR1 to TR20 of the spec, one step each. -/
def trapsRows : List Row := [
  ⟨[x 8 0x5, x 9 0x5], 0x01090030, [.entered 13 false 0xFFFFFFFF80000400 0xFFFFFFFF80000180]⟩,  -- TR1
  ⟨[x 8 0xFFFFFFFFFFFFFFFF, x 9 0x0], 0x01090030, [.pc 0xFFFFFFFF80000404]⟩,  -- TR2
  ⟨[x 8 0xFFFFFFFFFFFFFFFF, x 9 0x0], 0x01090031, [.entered 13 false 0xFFFFFFFF80000400 0xFFFFFFFF80000180]⟩,  -- TR3
  ⟨[x 8 0xFFFFFFFFFFFFFFFF, x 9 0x0], 0x01090032, [.entered 13 false 0xFFFFFFFF80000400 0xFFFFFFFF80000180]⟩,  -- TR4
  ⟨[x 8 0xFFFFFFFFFFFFFFFF, x 9 0x0], 0x01090033, [.pc 0xFFFFFFFF80000404]⟩,  -- TR5
  ⟨[x 8 0x7, x 9 0x7], 0x0109FFF4, [.entered 13 false 0xFFFFFFFF80000400 0xFFFFFFFF80000180]⟩,  -- TR6
  ⟨[x 8 0x7, x 9 0x7], 0x01090036, [.pc 0xFFFFFFFF80000404]⟩,  -- TR7
  ⟨[x 8 0xFFFFFFFFFFFFFFFF], 0x0508FFFF, [.entered 13 false 0xFFFFFFFF80000400 0xFFFFFFFF80000180]⟩,  -- TR8
  ⟨[x 8 0x7FFFFFFFFFFFFFFF], 0x0509FFFF, [.pc 0xFFFFFFFF80000404]⟩,  -- TR9
  ⟨[x 8 0x8000000000000000], 0x050A0000, [.entered 13 false 0xFFFFFFFF80000400 0xFFFFFFFF80000180]⟩,  -- TR10
  ⟨[x 8 0x0], 0x050BFFFF, [.entered 13 false 0xFFFFFFFF80000400 0xFFFFFFFF80000180]⟩,  -- TR11
  ⟨[x 8 0xFFFFFFFFFFFF8000], 0x050C8000, [.entered 13 false 0xFFFFFFFF80000400 0xFFFFFFFF80000180]⟩,  -- TR12
  ⟨[x 8 0x5], 0x050E0005, [.pc 0xFFFFFFFF80000404]⟩,  -- TR13
  ⟨[], 0x0000000C, [.entered 8 false 0xFFFFFFFF80000400 0xFFFFFFFF80000180]⟩,  -- TR14
  ⟨[], 0x000001CD, [.entered 9 false 0xFFFFFFFF80000400 0xFFFFFFFF80000180]⟩,  -- TR15
  ⟨[slot 0xFFFFFFFF80003000], 0x0000000C, [.entered 8 true 0xFFFFFFFF800003FC 0xFFFFFFFF80000180]⟩,  -- TR16
  -- TR17
  ⟨[status 0x34000002, fun s => { s with cp0 := { s.cp0 with epc := 0xFFFFFFFF80001234 } }, cause 0x80000000], 0x0000000C,
    [.entered 8 true 0xFFFFFFFF80001234 0xFFFFFFFF80000180]⟩,
  ⟨[status 0x34400000], 0x0000000D, [.entered 9 false 0xFFFFFFFF80000400 0xFFFFFFFFBFC00380]⟩,  -- TR18
  ⟨[], 0x0000000F, [.pc 0xFFFFFFFF80000404]⟩,  -- TR19
  -- TR20
  ⟨[x 8 0x7, x 9 0x7, slot 0xFFFFFFFF80003000], 0x01090034,
    [.entered 13 true 0xFFFFFFFF800003FC 0xFFFFFFFF80000180]⟩]

theorem test_traps : trapsRows.all passes = true := by decide +kernel

/-- Vectors C01 to C32 of the spec, one step each. -/
def coprocessor0Rows : List Row := [
  ⟨[status 0x34000000], 0x40086000, [.gpr 8 0x0000000034000000]⟩,  -- C01
  ⟨[fun s => { s with cp0 := { s.cp0 with epc := 6442455604 } }], 0x40087000, [.gpr 8 0xFFFFFFFF80001234]⟩,  -- C02
  ⟨[fun s => { s with cp0 := { s.cp0 with epc := 6442455604 } }], 0x40287000, [.gpr 8 0x0000000180001234]⟩,  -- C03
  ⟨[x 8 0xFFFFFFFFFFFFFFFF], 0x40886000, [.cop0 12 0xFF57FFFF]⟩,  -- C04
  ⟨[x 8 0xFFFFFFFFFFFFFFFF, cause 0x00008000], 0x40886800, [.cop0 13 0x00008300]⟩,  -- C05
  ⟨[x 8 0x1234567880001000], 0x40A87000, [.cop0 14 0x1234567880001000]⟩,  -- C09
  ⟨[x 8 0xFFFFFFFFFFFFFFFF], 0x40A85000, [.cop0 10 0xC00000FFFFFFE0FF]⟩,  -- C14
  -- C21
  ⟨[user 0x34000010, fun s => { s with cp0 := { s.cp0 with epc := 4660 } }], 0x40287000,
    [.entered 10 false 0x0000000000000400 0xFFFFFFFF80000180]⟩,
  ⟨[status 0x34000000], 0x48000000, [.entered 11 false 0xFFFFFFFF80000400 0xFFFFFFFF80000180, .ce 2]⟩,  -- C22
  ⟨[status 0x74000000], 0x48000000, [.entered 10 false 0xFFFFFFFF80000400 0xFFFFFFFF80000180]⟩,  -- C23
  ⟨[], 0x70000000, [.entered 10 false 0xFFFFFFFF80000400 0xFFFFFFFF80000180]⟩,  -- C24
  ⟨[], 0x00000001, [.entered 10 false 0xFFFFFFFF80000400 0xFFFFFFFF80000180]⟩,  -- C25
  ⟨[], 0x00000060, [.refused .shouldBeZero]⟩,  -- C27
  -- C30
  ⟨[status 0x34000003, fun s => { s with cp0 := { s.cp0 with epc := 0xFFFFFFFF80002000 } },
    fun s => { s with llbit := true }], 0x42000018,
    [.cop0 12 0x34000001, .llbit false, .pc 0xFFFFFFFF80002000, .delay none]⟩,
  -- C31
  ⟨[status 0x34000006, fun s => { s with cp0 := { s.cp0 with epc := 0xFFFFFFFF80002000 } },
    fun s => { s with cp0 := { s.cp0 with errorEpc := 0xFFFFFFFF80003000 } }], 0x42000018,
    [.cop0 12 0x34000002, .pc 0xFFFFFFFF80003000, .delay none]⟩,
  ⟨[status 0x34000002, slot 0xFFFFFFFF80003000], 0x42000018, [.refused .branchInDelaySlot]⟩]  -- C32

theorem test_coprocessor0 : coprocessor0Rows.all passes = true := by decide +kernel

/-- Vectors TL1 to TL15 of the spec, one step each. -/
def tlbRows : List Row := [
  ⟨[c0 0 0x3, c0 10 0x2000, c0 2 0x101F, c0 3 0x1], 0x42000002, [.entry 3 pair]⟩,  -- TL1
  -- TL2
  ⟨[c0 0 0x1F, c0 10 0x2000, fun s => { s with tlb := s.tlb.set 3 pair }, bytes 0x40000 [0xDE,0xAD,0xBE,0xEF]], 0x42000008,
    [.cop0 0 0x00000003]⟩,
  -- TL10
  ⟨[status 0x34000002, fun s => { s with cp0 := { s.cp0 with epc := 4096 } },
    fun s => { s with tlb := s.tlb.set 3 pair }, x 9 0x6008, bytes 0x40000 [0xDE,0xAD,0xBE,0xEF]], 0xAD280000,
    [.entered 3 false 0x0000000000001000 0xFFFFFFFF80000180, .cop0 8 0x0000000000006008,
     .cop0 10 0x0000000000006000, .cop0 4 0x0000000000000030, .cop0 20 0x0000000000000030]⟩,
  -- TL11
  ⟨[status 0x34400000, fun s => { s with tlb := s.tlb.set 3 pair }, x 9 0x6008,
    bytes 0x40000 [0xDE,0xAD,0xBE,0xEF]], 0x8D280000,
    [.entered 2 false 0xFFFFFFFF80000400 0xFFFFFFFFBFC00200, .cop0 8 0x0000000000006008,
     .cop0 10 0x0000000000006000, .cop0 4 0x0000000000000030, .cop0 20 0x0000000000000030]⟩,
  -- TL12
  ⟨[x 9 0x2000, fun s => { s with tlb := s.tlb.set 3 pair }, fun s => { s with tlb := s.tlb.set 7 pair },
    bytes 0x40000 [0xDE,0xAD,0xBE,0xEF]], 0x8D280000,
    [.refused .multipleTlbMatch]⟩,
  -- TL14
  ⟨[fun s => { s with tlb := s.tlb.set 3 { pair with g := false, asid := 5 } }, c0 10 0x6, x 9 0x2000,
    bytes 0x40000 [0xDE,0xAD,0xBE,0xEF]], 0x8D280000,
    [.entered 2 false 0xFFFFFFFF80000400 0xFFFFFFFF80000000, .cop0 8 0x0000000000002000,
     .cop0 10 0x0000000000002006, .cop0 4 0x0000000000000010, .cop0 20 0x0000000000000010]⟩,
  -- TL15
  ⟨[x 9 0x25234,
    fun s => { s with tlb := s.tlb.set 0 { mask := 3, r := 0, vpn2 := 0x10, asid := 0, g := true, page0 := page 0x100, page1 := page 0x104 } },
    bytes 0x105234 [0xCA,0xFE,0xF0,0x0D], bytes 0x40000 [0xDE,0xAD,0xBE,0xEF]], 0x8D280000,
    [.gpr 8 0xFFFFFFFFCAFEF00D]⟩]

theorem test_tlb : tlbRows.all passes = true := by decide +kernel

/-- Vectors EX1 to EX7 of the spec, one step each. -/
def exceptionsRows : List Row := [
  -- EX1
  ⟨[x 9 0xFFFFFFFF80001000, x 8 0x11223344, status 0x14000000], 0xC5220000,
    [.entered 11 false 0xFFFFFFFF80000400 0xFFFFFFFF80000180, .ce 1]⟩,
  -- EX2
  ⟨[x 9 0xFFFFFFFF80001000, x 8 0x11223344, status 0x14000000], 0x46041000,
    [.entered 11 false 0xFFFFFFFF80000400 0xFFFFFFFF80000180, .ce 1]⟩,
  ⟨[x 8 0x11223344, x 9 0xFFFFFFFF80001000], 0xBD200000, [.pc 0xFFFFFFFF80000404]⟩,  -- EX3
  -- EX4
  ⟨[x 9 0xFFFFFFFF80001000, x 8 0x11223344, user 0x24000010], 0xBD200000,
    [.entered 11 false 0x0000000000000400 0xFFFFFFFF80000180, .ce 0]⟩,
  -- EX5
  ⟨[x 8 0x11223344, x 9 0xFFFFFFFF80001000, c0 18 0x1002], 0x8D280004,
    [.entered 23 false 0xFFFFFFFF80000400 0xFFFFFFFF80000180]⟩,
  -- EX7
  ⟨[x 8 0x11223344, status 0x34000002, x 9 0xFFFFFFFF80001000, c0 18 0x1002], 0x8D280004,
    [.refused .watchPostponed]⟩]

theorem test_exceptions : exceptionsRows.all passes = true := by decide +kernel

/-- Vectors FP2 to FP24 of the spec, one step each. -/
def floatMoveRows : List Row := [
  -- FP2
  ⟨[fg 2 0x1111111122222222, fg 3 0x3333333344444444, x 9 0xFFFFFFFF80001000,
    bytes 0x1000 [0x3F,0xF0,0,0,0,0,0,1,0x40,0x49,0x0F,0xDB], status 0x30000000], 0xC5220008,
    [.cell 2 0x1111111140490FDB]⟩,
  -- FP4
  ⟨[fg 2 0x1111111122222222, fg 3 0x3333333344444444, x 9 0xFFFFFFFF80001000,
    bytes 0x1000 [0x3F,0xF0,0,0,0,0,0,1,0x40,0x49,0x0F,0xDB]], 0xD5220000,
    [.cell 2 0x3FF0000000000001]⟩,
  -- FP5
  ⟨[fg 2 0x1111111122222222, fg 3 0x3333333344444444, x 9 0xFFFFFFFF80001000,
    bytes 0x1000 [0x3F,0xF0,0,0,0,0,0,1,0x40,0x49,0x0F,0xDB], status 0x30000000], 0xD5230000,
    [.refused .oddFloatRegister]⟩,
  -- FP7
  ⟨[fg 2 0x1111111122222222, fg 3 0x3333333344444444, x 9 0xFFFFFFFF80001000,
    bytes 0x1000 [0x3F,0xF0,0,0,0,0,0,1,0x40,0x49,0x0F,0xDB], status 0x30000000], 0xE5230000,
    [.mem 0x1000 [0x11, 0x11, 0x11, 0x11]]⟩,
  -- FP8
  ⟨[fg 2 0x1111111122222222, fg 3 0x3333333344444444, x 9 0xFFFFFFFF80001000,
    bytes 0x1000 [0x3F,0xF0,0,0,0,0,0,1,0x40,0x49,0x0F,0xDB]], 0xE5230000,
    [.mem 0x1000 [0x44, 0x44, 0x44, 0x44]]⟩,
  -- FP9
  ⟨[fg 2 0x1111111122222222, fg 3 0x3333333344444444, x 9 0xFFFFFFFF80001000,
    bytes 0x1000 [0x3F,0xF0,0,0,0,0,0,1,0x40,0x49,0x0F,0xDB]], 0xF5220008,
    [.mem 0x1008 [0x11, 0x11, 0x11, 0x11, 0x22, 0x22, 0x22, 0x22]]⟩,
  -- FP11
  ⟨[fg 2 0x1111111122222222, fg 3 0x3333333344444444, x 9 0xFFFFFFFF80001000,
    bytes 0x1000 [0x3F,0xF0,0,0,0,0,0,1,0x40,0x49,0x0F,0xDB]], 0x44081000,
    [.gpr 8 0x0000000022222222]⟩,
  -- FP12
  ⟨[fg 2 0x1111111122222222, fg 3 0x3333333344444444, x 9 0xFFFFFFFF80001000,
    bytes 0x1000 [0x3F,0xF0,0,0,0,0,0,1,0x40,0x49,0x0F,0xDB], status 0x30000000], 0x44081800,
    [.gpr 8 0x0000000011111111]⟩,
  -- FP13
  ⟨[fg 2 0x1111111122222222, fg 3 0x3333333344444444, x 9 0xFFFFFFFF80001000,
    bytes 0x1000 [0x3F,0xF0,0,0,0,0,0,1,0x40,0x49,0x0F,0xDB]], 0x44281000,
    [.gpr 8 0x1111111122222222]⟩,
  -- FP14
  ⟨[fg 2 0x1111111122222222, fg 3 0x3333333344444444, x 9 0xFFFFFFFF80001000,
    bytes 0x1000 [0x3F,0xF0,0,0,0,0,0,1,0x40,0x49,0x0F,0xDB], status 0x30000000], 0x44281800,
    [.refused .oddFloatRegister]⟩,
  -- FP15
  ⟨[fg 2 0x1111111122222222, fg 3 0x3333333344444444, x 9 0xFFFFFFFF80001000,
    bytes 0x1000 [0x3F,0xF0,0,0,0,0,0,1,0x40,0x49,0x0F,0xDB], status 0x30000000, x 8 0xAAAAAAAABF800000], 0x44881000,
    [.cell 2 0x11111111BF800000]⟩,
  -- FP16
  ⟨[fg 2 0x1111111122222222, fg 3 0x3333333344444444, x 9 0xFFFFFFFF80001000,
    bytes 0x1000 [0x3F,0xF0,0,0,0,0,0,1,0x40,0x49,0x0F,0xDB], status 0x30000000, x 8 0xAAAAAAAABF800000], 0x44881800,
    [.cell 2 0xBF80000022222222]⟩,
  -- FP17
  ⟨[fg 2 0x1111111122222222, fg 3 0x3333333344444444, x 9 0xFFFFFFFF80001000,
    bytes 0x1000 [0x3F,0xF0,0,0,0,0,0,1,0x40,0x49,0x0F,0xDB], x 8 0xAAAAAAAABF800000], 0x44A81000,
    [.cell 2 0xAAAAAAAABF800000]⟩,
  -- FP18
  ⟨[fg 2 0x1111111122222222, fg 3 0x3333333344444444, x 9 0xFFFFFFFF80001000,
    bytes 0x1000 [0x3F,0xF0,0,0,0,0,0,1,0x40,0x49,0x0F,0xDB], fun s => { s with fcr31 := 0x01800F83 }], 0x4448F800,
    [.gpr 8 0x0000000001800F83]⟩,
  -- FP19
  ⟨[fg 2 0x1111111122222222, fg 3 0x3333333344444444, x 9 0xFFFFFFFF80001000,
    bytes 0x1000 [0x3F,0xF0,0,0,0,0,0,1,0x40,0x49,0x0F,0xDB], x 8 0xFFFFFFFFFFFC0FFF], 0x44C8F800,
    [.fcr31 0x01800FFF]⟩,
  -- FP20
  ⟨[fg 2 0x1111111122222222, fg 3 0x3333333344444444, x 9 0xFFFFFFFF80001000,
    bytes 0x1000 [0x3F,0xF0,0,0,0,0,0,1,0x40,0x49,0x0F,0xDB], x 8 0x10800], 0x44C8F800,
    [.entered 15 false 0xFFFFFFFF80000400 0xFFFFFFFF80000180, .fcr31 0x00010800]⟩,
  -- FP24
  ⟨[fg 2 0x1111111122222222, fg 3 0x3333333344444444, x 9 0xFFFFFFFF80001000,
    bytes 0x1000 [0x3F,0xF0,0,0,0,0,0,1,0x40,0x49,0x0F,0xDB], fun s => { s with fcr31 := 0x0001F07C }], 0x46201006,
    [.cell 0 0x1111111122222222]⟩]

theorem test_floatMove : floatMoveRows.all passes = true := by decide +kernel

/-- Vectors FB1 to FB5 of the spec, one step each. -/
def floatBranchRows : List Row := [
  -- FB1
  ⟨[fun s => { s with fcr31 := 0x00800000 }], 0x45010004,
    [.pc 0xFFFFFFFF80000404, .delay (some 0xFFFFFFFF80000414)]⟩,
  ⟨[fun s => { s with fcr31 := 0 }], 0x45010004, [.pc 0xFFFFFFFF80000404, .delay (some 0xFFFFFFFF80000408)]⟩,  -- FB2
  ⟨[fun s => { s with fcr31 := 0 }], 0x45000004, [.pc 0xFFFFFFFF80000404, .delay (some 0xFFFFFFFF80000414)]⟩,  -- FB3
  ⟨[fun s => { s with fcr31 := 0 }], 0x45030004, [.pc 0xFFFFFFFF80000408, .delay none]⟩,  -- FB4
  ⟨[fun s => { s with fcr31 := 0 }], 0x4502FFFF, [.pc 0xFFFFFFFF80000404, .delay (some 0xFFFFFFFF80000400)]⟩]  -- FB5

theorem test_floatBranch : floatBranchRows.all passes = true := by decide +kernel

/-- Vectors FC1 to FC13 of the spec, one step each. -/
def floatCompareRows : List Row := [
  ⟨[fg 2 0x3F800000, fg 4 0x40000000], 0x4604103C, [.fcr31 0x00800000]⟩,  -- FC1
  ⟨[fun s => { s with fcr31 := 0x800000 }, fg 2 0x3F800000, fg 4 0x40000000], 0x46041032, [.fcr31 0x00000000]⟩,  -- FC2
  ⟨[fg 2 0x0, fg 4 0x80000000], 0x46041032, [.fcr31 0x00800000]⟩,  -- FC3
  ⟨[fg 2 0x80000000, fg 4 0x1], 0x4604103C, [.fcr31 0x00800000]⟩,  -- FC4
  ⟨[fg 2 0x3F800000, fg 4 0x7FBFFFFF], 0x46041031, [.fcr31 0x00800000]⟩,  -- FC6
  ⟨[fg 2 0x40000000, fg 4 0x7FBFFFFF], 0x46041035, [.fcr31 0x00800000]⟩,  -- FC7
  -- FC9
  ⟨[fun s => { s with fcr31 := 0x00800800 }, fg 2 0x3F800000, fg 4 0x7FBFFFFF], 0x4604103C,
    [.entered 15 false 0xFFFFFFFF80000400 0xFFFFFFFF80000180, .fcr31 0x00810800]⟩,
  ⟨[fg 2 0x7FC00000, fg 4 0x3F800000], 0x46041030, [.fcr31 0x00010040]⟩,  -- FC10
  ⟨[fg 2 0x40000000, fg 4 0x3F800000], 0x4604103F, [.fcr31 0x00000000]⟩,  -- FC11
  ⟨[fg 4 0xFFEFFFFFFFFFFFFF, fg 2 0xFFF0000000000000], 0x4624103E, [.fcr31 0x00800000]⟩,  -- FC12
  -- FC13
  ⟨[fun s => { s with fcr31 := 0x0001007C }, fg 2 0x3F800000, fg 4 0x40000000], 0x4604103C,
    [.fcr31 0x0080007C]⟩]

theorem test_floatCompare : floatCompareRows.all passes = true := by decide +kernel

/-- Vectors FA1 to FA31 of the spec, one step each. -/
def floatArithmeticRows : List Row := [
  -- FA1
  ⟨[status 0x30000000, fg 0 0x5555555555555555, fg 2 0x3F800000, fg 4 0x40000000], 0x46041000,
    [.f32 0 0x40400000]⟩,
  -- FA4
  ⟨[fg 0 0x5555555555555555, fun s => { s with fcr31 := 0x00000200 }, fg 2 0x7F7FFFFF, fg 4 0x7F7FFFFF], 0x46041000,
    [.entered 15 false 0xFFFFFFFF80000400 0xFFFFFFFF80000180, .fcr31 0x00005200]⟩,
  -- FA5
  ⟨[fg 0 0x5555555555555555, fg 2 0x3F800000, fg 4 0x7FBFFFFF], 0x46041000,
    [.entered 15 false 0xFFFFFFFF80000400 0xFFFFFFFF80000180, .fcr31 0x00020000]⟩,
  -- FA7
  ⟨[fg 0 0x5555555555555555, fg 2 0x3F800000, fg 4 0x1], 0x46041000,
    [.entered 15 false 0xFFFFFFFF80000400 0xFFFFFFFF80000180, .fcr31 0x00020000]⟩,
  -- FA9
  ⟨[status 0x30000000, fg 0 0x5555555555555555, fg 2 0x3F800000, fg 4 0x3F800000], 0x46041001,
    [.f32 0 0x00000000]⟩,
  -- FA10
  ⟨[status 0x30000000, fg 0 0x5555555555555555, fun s => { s with fcr31 := 0x00000003 }, fg 2 0x3F800000,
    fg 4 0x3F800000], 0x46041001,
    [.f32 0 0x80000000]⟩,
  -- FA12
  ⟨[status 0x30000000, fg 0 0x5555555555555555, fun s => { s with fcr31 := 0x00000002 }, fg 2 0x3F800000,
    fg 4 0x33800000], 0x46041000,
    [.fcr31 0x00001006, .f32 0 0x3F800001]⟩,
  -- FA13
  ⟨[status 0x30000000, fg 0 0x5555555555555555, fg 2 0x40000000, fg 4 0x40400000], 0x46041002,
    [.f32 0 0x40C00000]⟩,
  -- FA14
  ⟨[fg 0 0x5555555555555555, fg 2 0x800000, fg 4 0x800000], 0x46041002,
    [.entered 15 false 0xFFFFFFFF80000400 0xFFFFFFFF80000180, .fcr31 0x00020000]⟩,
  -- FA16
  ⟨[status 0x30000000, fg 0 0x5555555555555555, fun s => { s with fcr31 := 0x01000002 }, fg 2 0x800000,
    fg 4 0x800000], 0x46041002,
    [.fcr31 0x0100300E, .f32 0 0x00800000]⟩,
  -- FA20
  ⟨[status 0x30000000, fg 0 0x5555555555555555, fg 2 0x3F800000, fg 4 0x40400000], 0x46041003,
    [.fcr31 0x00001004, .f32 0 0x3EAAAAAB]⟩,
  -- FA21
  ⟨[status 0x30000000, fg 0 0x5555555555555555, fg 2 0x3F800000, fg 4 0x80000000], 0x46041003,
    [.fcr31 0x00008020, .f32 0 0xFF800000]⟩,
  -- FA24
  ⟨[fg 0 0x5555555555555555, fg 2 0x3FF0000000000000, fg 4 0x4008000000000000], 0x46241003,
    [.fcr31 0x00001004, .cell 0 0x3FD5555555555555]⟩,
  -- FA25
  ⟨[status 0x30000000, fg 0 0x5555555555555555, fg 2 0x40000000], 0x46001004,
    [.fcr31 0x00001004, .f32 0 0x3FB504F3]⟩,
  -- FA26
  ⟨[status 0x30000000, fg 0 0x5555555555555555, fg 2 0xBF800000], 0x46001004,
    [.fcr31 0x00010040, .f32 0 0x7FBFFFFF]⟩,
  ⟨[status 0x30000000, fg 0 0x5555555555555555, fg 2 0xBF800000], 0x46001005, [.f32 0 0x3F800000]⟩,  -- FA28
  -- FA29
  ⟨[fg 0 0x5555555555555555, fg 2 0x7FBFFFFF], 0x46001005,
    [.entered 15 false 0xFFFFFFFF80000400 0xFFFFFFFF80000180, .fcr31 0x00020000]⟩,
  ⟨[status 0x30000000, fg 0 0x5555555555555555, fg 2 0x0], 0x46001007, [.f32 0 0x80000000]⟩,  -- FA30
  ⟨[status 0x30000000, fg 0 0x5555555555555555, fg 2 0x7FBFFFFF], 0x46001006, [.f32 0 0x7FBFFFFF]⟩]  -- FA31

theorem test_floatArithmetic : floatArithmeticRows.all passes = true := by decide +kernel

/-- Vectors FV1 to FV28 of the spec, one step each. -/
def floatConversionRows : List Row := [
  ⟨[fg 0 0x5555555555555555, fg 2 0x40200000], 0x46001008, [.fcr31 0x00001004, .cell 0 0x0000000000000002]⟩,  -- FV1
  ⟨[fg 0 0x5555555555555555, fg 2 0x40600000], 0x46001008, [.fcr31 0x00001004, .cell 0 0x0000000000000004]⟩,  -- FV2
  ⟨[fg 0 0x5555555555555555, fg 2 0xBFC00000], 0x46001009, [.fcr31 0x00001004, .cell 0 0xFFFFFFFFFFFFFFFF]⟩,  -- FV3
  ⟨[fg 0 0x5555555555555555, fg 2 0xBFC00000], 0x4600100A, [.fcr31 0x00001004, .cell 0 0xFFFFFFFFFFFFFFFF]⟩,  -- FV4
  ⟨[fg 0 0x5555555555555555, fg 2 0xBFC00000], 0x4600100B, [.fcr31 0x00001004, .cell 0 0xFFFFFFFFFFFFFFFE]⟩,  -- FV5
  -- FV6
  ⟨[status 0x30000000, fg 0 0x5555555555555555, fg 2 0x40200000], 0x4600100C,
    [.fcr31 0x00001004, .f32 0 0x00000002]⟩,
  -- FV7
  ⟨[status 0x30000000, fg 0 0x5555555555555555, fg 2 0xC0300000], 0x4600100D,
    [.fcr31 0x00001004, .f32 0 0xFFFFFFFE]⟩,
  -- FV8
  ⟨[status 0x30000000, fg 0 0x5555555555555555, fg 2 0x40100000], 0x4600100E,
    [.fcr31 0x00001004, .f32 0 0x00000003]⟩,
  -- FV9
  ⟨[status 0x30000000, fg 0 0x5555555555555555, fg 2 0xC0100000], 0x4600100F,
    [.fcr31 0x00001004, .f32 0 0xFFFFFFFD]⟩,
  -- FV10
  ⟨[fg 0 0x5555555555555555, fg 2 0x4F000000], 0x4600100D,
    [.entered 15 false 0xFFFFFFFF80000400 0xFFFFFFFF80000180, .fcr31 0x00020000]⟩,
  -- FV13
  ⟨[fg 0 0x5555555555555555, fg 2 0x4340000000000000], 0x46201009,
    [.entered 15 false 0xFFFFFFFF80000400 0xFFFFFFFF80000180, .fcr31 0x00020000]⟩,
  ⟨[fg 0 0x5555555555555555, fg 2 0x433FFFFFFFFFFFFF], 0x46201009, [.cell 0 0x001FFFFFFFFFFFFF]⟩,  -- FV14
  -- FV15
  ⟨[status 0x30000000, fg 0 0x5555555555555555, fg 2 0x40200000], 0x46001024,
    [.fcr31 0x00001004, .f32 0 0x00000002]⟩,
  -- FV16
  ⟨[status 0x30000000, fg 0 0x5555555555555555, fun s => { s with fcr31 := 0x00000002 }, fg 2 0x40200000], 0x46001024,
    [.fcr31 0x00001006, .f32 0 0x00000003]⟩,
  -- FV17
  ⟨[fg 0 0x5555555555555555, fun s => { s with fcr31 := 0x00000003 }, fg 2 0xBF000000], 0x46001025,
    [.fcr31 0x00001007, .cell 0 0xFFFFFFFFFFFFFFFF]⟩,
  -- FV18
  ⟨[status 0x30000000, fg 0 0x5555555555555555, fg 2 0x1000001], 0x46801020,
    [.fcr31 0x00001004, .f32 0 0x4B800000]⟩,
  -- FV19
  ⟨[status 0x30000000, fg 0 0x5555555555555555, fg 2 0x3FF0000010000000], 0x46201020,
    [.fcr31 0x00001004, .f32 0 0x3F800000]⟩,
  -- FV20
  ⟨[status 0x30000000, fg 0 0x5555555555555555, fg 2 0x47F0000000000000], 0x46201020,
    [.fcr31 0x00005014, .f32 0 0x7F800000]⟩,
  ⟨[fg 0 0x5555555555555555, fg 2 0x3F800000], 0x46001021, [.cell 0 0x3FF0000000000000]⟩,  -- FV21
  ⟨[fg 0 0x5555555555555555, fg 2 0xFFFFFFFF], 0x46801021, [.cell 0 0xBFF0000000000000]⟩,  -- FV22
  -- FV23
  ⟨[fg 0 0x5555555555555555, fg 2 0x20000000000001], 0x46A01021,
    [.fcr31 0x00001004, .cell 0 0x4340000000000000]⟩,
  -- FV24
  ⟨[fg 0 0x5555555555555555, fg 2 0x80000000000000], 0x46A01020,
    [.entered 15 false 0xFFFFFFFF80000400 0xFFFFFFFF80000180, .fcr31 0x00020000]⟩,
  -- FV25
  ⟨[fg 0 0x5555555555555555], 0x46001020,
    [.entered 15 false 0xFFFFFFFF80000400 0xFFFFFFFF80000180, .fcr31 0x00020000]⟩,
  -- FV26
  ⟨[fg 0 0x5555555555555555], 0x46801000,
    [.entered 15 false 0xFFFFFFFF80000400 0xFFFFFFFF80000180, .fcr31 0x00020000]⟩,
  -- FV27
  ⟨[fg 0 0x5555555555555555], 0x46001010,
    [.entered 15 false 0xFFFFFFFF80000400 0xFFFFFFFF80000180, .fcr31 0x00020000]⟩,
  ⟨[fg 0 0x5555555555555555], 0x45E00000, [.entered 10 false 0xFFFFFFFF80000400 0xFFFFFFFF80000180]⟩]  -- FV28

theorem test_floatConversion : floatConversionRows.all passes = true := by decide +kernel

/-- Vectors IN1 to IN20 of the spec, one step each. -/
def interruptsRows : List Row := [
  ⟨[c0 9 0x10, c0 11 0x20], 0x00000000, [.pc 0xFFFFFFFF80000404, .cop0 9 0x00000011]⟩,  -- IN1
  ⟨[c0 9 0xFFFFFFFF, c0 11 0x20], 0x00000000, [.pc 0xFFFFFFFF80000404, .cop0 9 0x00000000]⟩,  -- IN2
  -- IN3
  ⟨[status 0x34000000, c0 9 0x1F, c0 11 0x20], 0x00000000,
    [.pc 0xFFFFFFFF80000404, .cop0 13 0x00008000, .cop0 9 0x00000020]⟩,
  -- IN4
  ⟨[status 0x34008001, c0 9 0x1F, c0 11 0x20], 0x00000000,
    [.entered 0 false 0xFFFFFFFF80000404 0xFFFFFFFF80000180, .ip 0b10000000, .cop0 9 0x00000020]⟩,
  -- IN5
  ⟨[status 0x34000401, c0 9 0x1F, c0 11 0x20], 0x00000000,
    [.pc 0xFFFFFFFF80000404, .cop0 13 0x00008000, .cop0 9 0x00000020]⟩,
  -- IN6
  ⟨[x 8 0x100, cause 0x00008000, c0 9 0x5], 0x40885800,
    [.pc 0xFFFFFFFF80000404, .cop0 13 0x00000000, .cop0 9 0x00000006, .cop0 11 0x00000100]⟩,
  -- IN7
  ⟨[x 8 0x20, c0 9 0x1F], 0x40885800,
    [.pc 0xFFFFFFFF80000404, .cop0 13 0x00008000, .cop0 9 0x00000020, .cop0 11 0x00000020]⟩,
  ⟨[x 8 0x20], 0x40884800, [.pc 0xFFFFFFFF80000404, .cop0 9 0x00000021]⟩,  -- IN8
  -- IN9
  ⟨[status 0x34000401, fun s => { s with intPins := 0b00001 }], 0x00000000,
    [.entered 0 false 0xFFFFFFFF80000404 0xFFFFFFFF80000180, .ip 0b00000100, .cop0 9 0x00000001]⟩,
  -- IN10
  ⟨[status 0x34000400, fun s => { s with intPins := 0b00001 }], 0x00000000,
    [.pc 0xFFFFFFFF80000404, .cop0 13 0x00000400, .cop0 9 0x00000001]⟩,
  -- IN11
  ⟨[status 0x34000403, fun s => { s with intPins := 0b00001 }], 0x00000000,
    [.pc 0xFFFFFFFF80000404, .cop0 13 0x00000400, .cop0 9 0x00000001]⟩,
  -- IN12
  ⟨[status 0x34000405, fun s => { s with intPins := 0b00001 }], 0x00000000,
    [.pc 0xFFFFFFFF80000404, .cop0 13 0x00000400, .cop0 9 0x00000001]⟩,
  -- IN13
  ⟨[status 0x34000801, fun s => { s with intPins := 0b00001 }], 0x00000000,
    [.pc 0xFFFFFFFF80000404, .cop0 13 0x00000400, .cop0 9 0x00000001]⟩,
  -- IN14
  ⟨[cause 0x00000400, fun s => { s with intPins := 0b00000 }], 0x00000000,
    [.pc 0xFFFFFFFF80000404, .cop0 13 0x00000000, .cop0 9 0x00000001]⟩,
  -- IN15
  ⟨[status 0x3400FF01, cause 0x00008100, fun s => { s with intPins := 0b10100 }], 0x00000000,
    [.entered 0 false 0xFFFFFFFF80000404 0xFFFFFFFF80000180, .ip 0b11010001, .cop0 9 0x00000001]⟩,
  -- IN16
  ⟨[status 0x34000101, x 8 0x100], 0x40886800,
    [.entered 0 false 0xFFFFFFFF80000404 0xFFFFFFFF80000180, .ip 0b00000001, .cop0 9 0x00000001]⟩,
  -- IN17
  ⟨[status 0x34000401, x 1 0x0, x 2 0x0, fun s => { s with intPins := 0b00001 }], 0x10220004,
    [.entered 0 true 0xFFFFFFFF80000400 0xFFFFFFFF80000180, .ip 0b00000100, .cop0 9 0x00000001]⟩,
  -- IN18
  ⟨[status 0x34000400, x 8 0x34000401, fun s => { s with intPins := 0b00001 }], 0x40886000,
    [.entered 0 false 0xFFFFFFFF80000404 0xFFFFFFFF80000180, .ip 0b00000100, .cop0 9 0x00000001]⟩,
  -- IN19
  ⟨[status 0x34000401, x 8 0x7FFFFFFF, fun s => { s with intPins := 0b00001 }], 0x21090001,
    [.entered 12 false 0xFFFFFFFF80000400 0xFFFFFFFF80000180, .ip 0b00000100, .cop0 9 0x00000001]⟩,
  -- IN20
  ⟨[status 0x34400401, fun s => { s with intPins := 0b00001 }], 0x00000000,
    [.entered 0 false 0xFFFFFFFF80000404 0xFFFFFFFFBFC00380, .ip 0b00000100, .cop0 9 0x00000001]⟩]

theorem test_interrupts : interruptsRows.all passesTick = true := by decide +kernel

/-- Vectors PF1 to PF16 of the spec, one step each. -/
def pifRows : List Row := [
  -- PF1
  ⟨[x 9 0xFFFFFFFFBFC007C0, x 10 0x1,
    bytes 0x1FC007C0 ([1,3,0xFF,0xA5,0xA5,0xA5,0xFE] ++ List.replicate (64 - 7) 165)], 0xAD2A003C,
    [.mem 0x1FC007C3 [5, 0, 2], .mem 0x1FC007FC [0, 0, 0, 1]]⟩,
  -- PF2
  ⟨[x 9 0xFFFFFFFFBFC007C0, bytes 0x1FC007C0 ([1,3,0xFF,0xA5,0xA5,0xA5,0xFE] ++ List.replicate (64 - 7) 165),
    x 10 0x1], 0xA12A003F,
    [.mem 0x1FC007C3 [5, 0, 2], .mem 0x1FC007FF [1]]⟩,
  -- PF3
  ⟨[x 9 0xFFFFFFFFBFC007C0, bytes 0x1FC007C0 ([1,3,0xFF,0xA5,0xA5,0xA5,0xFE] ++ List.replicate (64 - 7) 165),
    x 10 0x1], 0xA12A003E,
    [.mem 0x1FC007FE [1]]⟩,
  -- PF8
  ⟨[x 9 0xFFFFFFFFBFC007C0, bytes 0x1FC007C0 ([0x3F,0x3F,0] ++ List.replicate (64 - 3) 165), x 10 0x1], 0xAD2A003C,
    [.mem 0x1FC007FC [0, 0, 0, 1]]⟩,
  -- PF9
  ⟨[x 9 0xFFFFFFFFBFC007C0, bytes 0x1FC007C0 ([1,0xFE,0xFF] ++ List.replicate (64 - 3) 255), x 10 0x1], 0xAD2A003C,
    [.mem 0x1FC007FC [0, 0, 0, 1]]⟩,
  -- PF11
  ⟨[x 9 0xFFFFFFFFBFC007C0, bytes 0x1FC007C0 ([1,1,0,0xA5,0xA5,0xFE] ++ List.replicate (64 - 6) 0), x 10 0x1], 0xAD2A003C,
    [.mem 0x1FC007C3 [5], .mem 0x1FC007FF [1]]⟩,
  ⟨[x 9 0xFFFFFFFFBFC007C0, x 10 0x2], 0xA12A003F, [.refused .pifCommand]⟩,  -- PF14
  ⟨[x 9 0xFFFFFFFFBFC007C0, x 10 0x8], 0xA12A003F, [.mem 0x1FC007FF [8]]⟩,  -- PF15
  ⟨[x 9 0xFFFFFFFFBFC007C0, x 10 0x0], 0xA12A003F, [.mem 0x1FC007FF [0]]⟩]  -- PF16

theorem test_pif : pifRows.all passes = true := by decide +kernel

/-! ### Rows worked out by hand from the rules -/

/-- Double-precision forms on exact operands (spec/47_fpu_arith.md R416 to R431), and CVT with each rounding mode. -/
def doubleRows : List Row := [
  ⟨[fg 2 0x3FF0000000000000, fg 4 0x4000000000000000], 0x46241000, [.cell 0 0x4008000000000000]⟩,  -- ADD.D 1 + 2
  ⟨[fg 2 0x3FF0000000000000, fg 4 0x3FF0000000000000], 0x46241001, [.cell 0 0]⟩,                   -- SUB.D 1 - 1
  ⟨[fg 2 0x4000000000000000, fg 4 0x4008000000000000], 0x46241002, [.cell 0 0x4018000000000000]⟩,  -- MUL.D 2 * 3
  ⟨[fg 2 0x4010000000000000], 0x46201004, [.cell 0 0x4000000000000000]⟩,                           -- SQRT.D 4
  ⟨[fg 2 0xBFF0000000000000], 0x46201005, [.cell 0 0x3FF0000000000000]⟩,                           -- ABS.D -1
  ⟨[fg 2 0], 0x46201007, [.cell 0 0x8000000000000000]⟩,                                            -- NEG.D +0
  ⟨[fg 2 0x400C000000000000], 0x46201008, [.cell 0 4]⟩,                                            -- ROUND.L.D 3.5
  ⟨[fg 2 0xBFF8000000000000], 0x4620100A, [.cell 0 0xFFFFFFFFFFFFFFFF]⟩,                           -- CEIL.L.D -1.5
  ⟨[fg 2 0xBFF8000000000000], 0x4620100B, [.cell 0 0xFFFFFFFFFFFFFFFE]⟩,                           -- FLOOR.L.D -1.5
  ⟨[fg 2 0x4004000000000000], 0x46201025, [.cell 0 2]⟩,                                            -- CVT.L.D 2.5
  ⟨[status 0x30000000, fg 2 0x4004000000000000], 0x4620100C, [.f32 0 2]⟩,                          -- ROUND.W.D 2.5
  ⟨[status 0x30000000, fg 2 0xBFF8000000000000], 0x4620100D, [.f32 0 0xFFFFFFFF]⟩,                 -- TRUNC.W.D -1.5
  ⟨[status 0x30000000, fg 2 0x4002000000000000], 0x4620100E, [.f32 0 3]⟩,                          -- CEIL.W.D 2.25
  ⟨[status 0x30000000, fg 2 0xC002000000000000], 0x4620100F, [.f32 0 0xFFFFFFFD]⟩,                 -- FLOOR.W.D -2.25
  ⟨[status 0x30000000, fun s => { s with fcr31 := 2 }, fg 2 0x4004000000000000], 0x46201024, [.f32 0 3]⟩]  -- CVT.W.D

theorem test_double : doubleRows.all passes = true := by decide +kernel

/-- The sixteen conditions in the order of their numbers, on 1 < 2: true exactly where bit 2 of the condition is set
(spec/47_fpu_arith.md R435). -/
def compareRows (word : Word32) (one two : Word) : List Row :=
  (List.range 16).map fun c => ⟨[fg 2 one, fg 4 two], word + BitVec.ofNat 32 c,
    [.fcr31 (if c / 4 % 2 = 1 then 0x00800000 else 0)]⟩

theorem test_compare_single : (compareRows 0x46041030 0x3F800000 0x40000000).all passes = true := by decide +kernel
theorem test_compare_double : (compareRows 0x46241030 0x3FF0000000000000 0x4000000000000000).all passes = true := by
  decide +kernel

/-- TLBR: the registers of vector TL4 (spec/96_test_vectors_system.md). -/
theorem test_tlbr : passes ⟨[fun s => { s with tlb := s.tlb.set 3 pair }, c0 0 3, c0 10 0x55], 0x42000001,
    [.cop0 10 0x2000, .cop0 2 0x101F, .cop0 3 0x1, .cop0 5 0]⟩ = true := by decide +kernel

/-- The controller latch: vectors PF5 and PF6 (spec/96_test_vectors_system.md). -/
def latchRows : List Row := [
  ⟨[x 9 0xFFFFFFFFBFC007C0, x 10 1, pushInput 1 0x8000 false true false true, pushInput 1 0x0010 false false false false,
    bytes 0x1FC007C0 ([0xFF, 1, 4, 1, 0xA5, 0xA5, 0xA5, 0xA5, 0xFE] ++ List.replicate 55 0)], 0xAD2A003C,
    [.latch 1 Latch.empty, .mem 0x1FC007C4 [0x80, 0x10, 0, 0], .mem 0x1FC007FF [1]]⟩,
  ⟨[x 9 0xFFFFFFFFBFC007C0, x 10 1, pushInput 0 0x1000 true false true false,
    bytes 0x1FC007C0 ([1, 4, 1, 0xA5, 0xA5, 0xA5, 0xA5, 0xFE] ++ List.replicate 56 0)], 0xAD2A003C,
    [.latch 0 Latch.empty, .mem 0x1FC007C3 [0x10, 0x00, 0xCE, 0x32], .mem 0x1FC007FF [1]]⟩]

theorem test_controller_latch : latchRows.all passes = true := by decide +kernel

/-- The DMA registers of vectors DV1 to DV12 as their earlier stores leave them. -/
def piReady (ram cart : Word32) (s : State) : State := { s with piRegs := (s.piRegs.set 0 ram).set 1 cart }
def spReady (mem ram : Word32) (s : State) : State := { s with spRegs := (s.spRegs.set 0 mem).set 1 ram }

/-- Vectors DV1, DV2, DV3, DV6, DV7, DV10 to DV14, DV17, DV18, their last step. -/
def deviceRows : List Row := [
  ⟨[x 9 0xFFFFFFFFA4600000, x 12 7, piReady 0x400 0x10001000, bytes 0x10001000 [3, 10, 17, 24, 31, 38, 45, 52]],
    0xAD2C000C, [.mem 0x400 [3, 10, 17, 24, 31, 38, 45, 52]]⟩,
  ⟨[x 9 0xFFFFFFFFA4600000, x 12 8, piReady 0x400 0x10001000], 0xAD2C000C, [.refused .dmaUnaligned]⟩,
  ⟨[x 9 0xFFFFFFFFA4600000, x 12 7, piReady 0x404 0x10001000], 0xAD2C000C, [.refused .dmaUnaligned]⟩,
  ⟨[x 9 0xFFFFFFFFA4600000, x 12 7, piReady 0x400 0x10001000, bytes 0x10001000 [3, 10, 17, 24, 31, 38, 45, 52]],
    0xA12C000F, [.mem 0x400 [3, 10, 17, 24, 31, 38, 45, 52]]⟩,
  ⟨[x 9 0xFFFFFFFFA4600000, x 12 7, piReady 0x400 0x05000000], 0xAD2C000C, [.dmaFault 0x05000000 0 0 []]⟩,
  ⟨[x 9 0xFFFFFFFFA4040000, x 12 7, spReady 0x1008 0x2000, bytes 0x2000 [1, 2, 3, 4, 5, 6, 7, 8]], 0xAD2C0008,
    [.mem 0x04001008 [1, 2, 3, 4, 5, 6, 7, 8]]⟩,
  ⟨[x 9 0xFFFFFFFFA4040000, x 12 0xF, spReady 0x0FF8 0x2000], 0xAD2C0008, [.refused .dmaUnaligned]⟩,
  ⟨[x 9 0xFFFFFFFFA4040000, x 12 0x100F, spReady 0x1008 0x2000], 0xAD2C0008, [.refused .dmaUnaligned]⟩,
  ⟨[x 9 0xFFFFFFFFA4040000], 0x8D280010, [.gpr 8 1]⟩,
  ⟨[x 9 0xFFFFFFFFA4040000, fun s => { s with spStatus := { SpStatus.reset with sig := 0x81 } }], 0x8D280010,
    [.gpr 8 0x4081]⟩,
  ⟨[x 9 0xFFFFFFFFA4040000], 0x8D28001C, [.gpr 8 0]⟩,
  ⟨[x 9 0xFFFFFFFFA4040000, fun s => { s with semaphore := true }], 0x8D28001C, [.gpr 8 1]⟩]

/-- The copy that leaves populated RDRAM has moved eight bytes (spec/61_platform_devices.md R543). -/
theorem test_partial_transfer : passes ⟨[x 9 0xFFFFFFFFA4600000, x 12 15, piReady 0x3FFFF8 0x10001000,
    bytes 0x10001000 [1, 2, 3, 4, 5, 6, 7, 8, 9, 10, 11, 12, 13, 14, 15, 16]], 0xAD2C000C,
    [.dmaFault 0x400000 8 0x3FFFF8 [1, 2, 3, 4, 5, 6, 7, 8]]⟩ = true := by decide +kernel

/-- PI_RD_LEN into the PI block: its four bytes are the length 7 in PI_WR_LEN, so eight bytes of PI_WR_LEN and PI_STATUS
go to RDRAM inside the same store (spec/61_platform_devices.md R533, R551). -/
theorem test_transfer_starts_transfer : passes ⟨[x 9 0xFFFFFFFFA4600000, x 12 3, piReady 0x800 0x0460000C,
    bytes 0x800 [0, 0, 0, 7]], 0xAD2C0008, [.mem 0x800 [0, 0, 0, 7, 0, 0, 0]]⟩ = true := by decide +kernel

/-- A cell written under FR = 1 and hidden while FR = 0 reads as before when MTC0 sets FR again
(spec/10_state.md R33). -/
theorem test_hidden_cell_reappears : passes ⟨[fg 3 0x0123456789ABCDEF, nowStatus 0x30000000, x 8 0x34000000], 0x40886000,
    [.cell 3 0x0123456789ABCDEF]⟩ = true := by decide +kernel

/-- With FR = 0 an odd register is the high half of its pair, and the other half is kept (spec/10_state.md R31). -/
theorem test_odd_register_of_a_pair : passes ⟨[status 0x30000000, fg 2 0x1111111122222222, x 8 0x33333333], 0x44881800,
    [.cell 2 0x3333333322222222, .f32 3 0x33333333]⟩ = true := by decide +kernel

theorem test_devices : deviceRows.all passes = true := by decide +kernel

/-- DV15: the command word 0x125 clears halt, broke and sstep and sets intr_break. -/
theorem test_sp_status_commands : spStatusCommand 0x125 { SpStatus.reset with broke := true, sstep := true } =
    { halt := false, broke := false, sstep := false, intrBreak := true, sig := 0 } := by decide +kernel

/-! ### Witnesses: states and operands that meet the hypotheses of the statements, clause by clause -/

/-- The effective address of an access. -/
def ea (s : State) (b : Reg) (o : BitVec 16) : Word := readGpr s b + BitVec.ofInt 64 o.toInt

def isNext (r : Result) : Bool :=
  match r with
  | .next _ => true
  | _ => false

theorem next_of {r : Result} (h : isNext r = true) : ∃ t, r = .next t := by
  cases r with
  | next t => exact ⟨t, rfl⟩
  | fault f => cases h
  | refused q => cases h

theorem all_of {α : Type} {l : List α} {p : α → Prop} [DecidablePred p] (h : (l.all fun a => decide (p a)) = true) :
    ∀ a ∈ l, p a := by simpa using h
theorem any_of {α : Type} {l : List α} {p : α → Prop} [DecidablePred p] (h : (l.any fun a => decide (p a)) = true) :
    ∃ a ∈ l, p a := by simpa using h

/-- User mode without coprocessor 0, 32-bit operations. -/
def userState : State := user 0x24000010 base
/-- Kernel mode with CU1 = 0. -/
def noCu1 : State := status 0x14000000 base
/-- Kernel mode with FR = 0. -/
def fr0 : State := status 0x30000000 base
/-- The base state inside a delay slot. -/
def inSlot : State := slot 0xFFFFFFFF80003000 base

theorem permits {s : State} (h : s.cp0.status = 0x34000000) : Permits64 s :=
  ⟨.kernel, by rw [h]; decide, by rw [h]; decide⟩
theorem usable {s : State} (h : s.cp0.status = 0x34000000) : Cop0Usable s :=
  ⟨.kernel, by rw [h]; decide, by rw [h]; decide⟩
theorem plainOrder {s : State} (h : s.cp0.status = 0x34000000) : PlainOrder s :=
  ⟨.kernel, by rw [h]; decide, fun h => by cases h⟩
theorem user_forbids : Forbids64 userState := ⟨.user, by decide, by decide⟩
theorem user_unusable : Cop0Unusable userState := ⟨.user, by decide, by decide⟩

/-- If64, IfCop0, IfCop1 and IfFloat have both their cases. -/
theorem witness_conditions : Permits64 base ∧ Forbids64 userState ∧ Cop0Usable base ∧ Cop0Unusable userState ∧
    base.cp0.status.getLsbD 29 = true ∧ noCu1.cp0.status.getLsbD 29 = false ∧
    (∀ r ∈ ([3, 31] : List Reg), base.cp0.status.getLsbD 26 = true ∨ r.toNat % 2 = 0) ∧
    (∀ r ∈ ([2, 30] : List Reg), fr0.cp0.status.getLsbD 26 = true ∨ r.toNat % 2 = 0) ∧
    (∃ r ∈ ([2, 3] : List Reg), fr0.cp0.status.getLsbD 26 = false ∧ r.toNat % 2 = 1) :=
  ⟨permits rfl, user_forbids, usable rfl, user_unusable, by decide, by decide, all_of (by decide), all_of (by decide),
    any_of (by decide)⟩

theorem witness_ReservedEncodings :
    (∀ w ∈ ([0x4C000000, 0x70000000, 0xF8000000] : List Word32),
      (opF w).toNat ∈ [19, 28, 29, 30, 31, 51, 59, 50, 54, 58, 62]) ∧
    (∀ w ∈ ([0x00000001, 0x0000003D] : List Word32),
      (opF w).toNat = 0 ∧ (fnF w).toNat ∈ [1, 5, 10, 11, 14, 21, 40, 41, 53, 55, 57, 61]) ∧
    (∀ w ∈ ([0x04040000, 0x040F0000, 0x04140000, 0x041F0000] : List Word32),
      (opF w).toNat = 1 ∧ ((rtF w).toNat ∈ [4, 5, 6, 7, 13, 15] ∨ 20 ≤ (rtF w).toNat)) ∧
    (∀ w ∈ ([0x40400000, 0x41E00000, 0x42000000, 0x43E0003F] : List Word32), (opF w).toNat = 16 ∧
      ((rsF w).toNat ∈ [2, 3, 6, 7, 8, 9, 10, 11, 12, 13, 14, 15] ∨
        (16 ≤ (rsF w).toNat ∧ (fnF w).toNat ∉ [1, 2, 6, 8, 24]))) ∧
    (∀ w ∈ ([0x44600000, 0x46600000, 0x46C00000, 0x47E00000] : List Word32), (opF w).toNat = 17 ∧
      ((rsF w).toNat ∈ [3, 7, 9, 10, 11, 12, 13, 14, 15, 18, 19] ∨ 22 ≤ (rsF w).toNat)) ∧
    (opF 0x48000000).toNat = 18 ∧ base.cp0.status.getLsbD 30 = false ∧
    (status 0x74000000 base).cp0.status.getLsbD 30 = true ∧
    (∀ w ∈ ([0x46000010, 0x4600002F] : List Word32), (opF w).toNat = 17 ∧ (rsF w).toNat = 16 ∧ (fnF w).toNat < 48 ∧
      (fnF w).toNat ∉ [0, 1, 2, 3, 4, 5, 6, 7, 8, 9, 10, 11, 12, 13, 14, 15, 33, 36, 37]) ∧
    (∀ w ∈ ([0x46200021, 0x4620002F] : List Word32), (opF w).toNat = 17 ∧ (rsF w).toNat = 17 ∧ (fnF w).toNat < 48 ∧
      (fnF w).toNat ∉ [0, 1, 2, 3, 4, 5, 6, 7, 8, 9, 10, 11, 12, 13, 14, 15, 32, 36, 37]) ∧
    (∀ w ∈ ([0x46800000, 0x46A0003F] : List Word32), (opF w).toNat = 17 ∧
      ((rsF w).toNat = 20 ∨ (rsF w).toNat = 21) ∧ (fnF w).toNat ∉ [32, 33]) := by
  refine ⟨all_of ?_, all_of ?_, all_of ?_, all_of ?_, all_of ?_, ?_, ?_, ?_, all_of ?_, all_of ?_, all_of ?_⟩ <;>
    decide +kernel

theorem witness_ShouldBeZeroRefused :
    decode 0x01095060 = .shouldBeZero (.add 8 9 10) ∧
    (decode 0x42000058 = .shouldBeZero .eret ∧ opF 0x42000058 = 16#6 ∧ Cop0Usable base) ∧
    (decode 0x44081001 = .shouldBeZero (.mfc1 8 2) ∧ opF 0x44081001 = 17#6 ∧ base.cp0.status.getLsbD 29 = true) ∧
    (decode 0x0109506C = .shouldBeZero (.dadd 8 9 10) ∧ needs64 (.dadd 8 9 10) = true ∧ Permits64 base) :=
  ⟨by decide +kernel, ⟨by decide +kernel, by decide, usable rfl⟩, ⟨by decide +kernel, by decide, by decide⟩,
    ⟨by decide +kernel, by decide, permits rfl⟩⟩

/-- The premises of the fetch, for an instruction that answers a next state, a fault and a refusal. -/
theorem witness_StepRunsDecoded :
    (∀ r ∈ ([(0x25080001, .addiu 8 8 1), (0x8D280000, .lw 9 8 0), (0x01004009, .jalr 8 8)] : List (Word32 × Instr)),
      let s := (x 9 0xFFFFFFFFA5000000 base).withFetchWord 32 r.1.toNat;
      fetchAddress s.pc s = .ok 0x400 ∧ (∀ k < 4, plainRead (0x400 + BitVec.ofNat 32 k) s = true) ∧
      decodeBytes (memByte 0x400 s) (memByte 0x401 s) (memByte 0x402 s) (memByte 0x403 s) = .instr r.2) ∧
    (base.inputs = [] ∧ base.coldResetPin = false ∧ base.softResetPin = false ∧ base.nmiPin = false) ∧
    beginTick base = base ∧
    isNext (exec (.addiu 8 8 1) base) = true ∧
    meets [.fault (.busFault 0x05000000)] (exec (.lw 9 8 0) (x 9 0xFFFFFFFFA5000000 base)) = true ∧
    exec (.jalr 8 8) base = .refused .jalrSameRegister :=
  ⟨by decide +kernel, ⟨rfl, rfl, rfl, rfl⟩, rfl, by decide +kernel, by decide +kernel, rfl⟩

theorem witness_DecodeEncode : decode 0x0109FFF4 = .instr (.teq 8 9 0x3FF) := by decide

theorem witness_AddSubtractWord :
    (∀ p ∈ ([(0x7FFFFFFE, 1), (0xFFFFFFFF80000001, 0xFFFFFFFFFFFFFFFF)] : List (Word × Word)),
      let s := x 8 p.1 (x 9 p.2 base);
      isSE32 (readGpr s 8) = true ∧ isSE32 (readGpr s 9) = true ∧
      -(2 ^ 31) ≤ (readGpr s 8).toInt + (readGpr s 9).toInt ∧ (readGpr s 8).toInt + (readGpr s 9).toInt < 2 ^ 31) ∧
    (∀ p ∈ ([(0x7FFFFFFF, 1), (0xFFFFFFFF80000000, 0xFFFFFFFFFFFFFFFF)] : List (Word × Word)),
      let s := x 8 p.1 (x 9 p.2 base);
      isSE32 (readGpr s 8) = true ∧ isSE32 (readGpr s 9) = true ∧
      ¬ (-(2 ^ 31) ≤ (readGpr s 8).toInt + (readGpr s 9).toInt ∧ (readGpr s 8).toInt + (readGpr s 9).toInt < 2 ^ 31)) ∧
    (let s := x 8 0xFFFFFFFF80000000 (x 9 1 base);
      isSE32 (readGpr s 8) = true ∧ isSE32 (readGpr s 9) = true ∧
      ¬ (-(2 ^ 31) ≤ (readGpr s 8).toInt - (readGpr s 9).toInt)) ∧
    (let s := x 8 0x80000000 base;
      isSE32 (readGpr s 8) = false) :=
  ⟨all_of (by decide +kernel), all_of (by decide +kernel), by decide +kernel, by decide +kernel⟩

theorem witness_AddSubtractDouble : Permits64 base ∧ Forbids64 userState ∧
    (let s := x 8 0x7FFFFFFFFFFFFFFE (x 9 1 base);
      (readGpr s 8).toInt + (readGpr s 9).toInt = 2 ^ 63 - 1) ∧
    (let s := x 8 0x7FFFFFFFFFFFFFFF (x 9 1 base);
      (readGpr s 8).toInt + (readGpr s 9).toInt = 2 ^ 63) ∧
    (let s := x 8 0x8000000000000000 (x 9 1 base);
      (readGpr s 8).toInt - (readGpr s 9).toInt = -(2 ^ 63) - 1) :=
  ⟨permits rfl, user_forbids, by decide +kernel, by decide +kernel, by decide +kernel⟩

theorem witness_ShiftWord :
    isSE32 (readGpr (x 8 0xFFFFFFFF80000000 base) 8) = true ∧
    isSE32 (readGpr (x 8 0x80000000 base) 8) = false := by decide +kernel

theorem witness_ShiftDouble : Permits64 (x 8 0x8000000000000001 base) ∧ Forbids64 userState := ⟨permits rfl, user_forbids⟩

theorem witness_MultiplyAndMoves : Permits64 base ∧ Forbids64 userState ∧
    (let s := x 8 0xFFFFFFFF80000000 (x 9 0x7FFFFFFF base);
      isSE32 (readGpr s 8) = true ∧ isSE32 (readGpr s 9) = true) ∧
    (let s := x 8 0x80000000 (x 9 1 base);
      isSE32 (readGpr s 8) = false) :=
  ⟨permits rfl, user_forbids, by decide +kernel, by decide +kernel⟩

/-- The two open corners of a division and the ordinary case, in words and doublewords. -/
theorem witness_DivideResults : Permits64 base ∧
    (∀ p ∈ ([(5, 0), (0xFFFFFFFF80000000, 0xFFFFFFFFFFFFFFFF), (0xFFFFFFFF80000000, 1)] : List (Word × Word)),
      let s := x 8 p.1 (x 9 p.2 base);
      isSE32 (readGpr s 8) = true ∧ isSE32 (readGpr s 9) = true) ∧
    (readGpr (x 9 0 base) 9).toInt = 0 ∧ (readGpr (x 9 0 base) 9).toNat % 2 ^ 32 = 0 ∧
    (readGpr (x 8 0xFFFFFFFF80000000 base) 8).toInt = -(2 ^ 31) ∧
    (readGpr (x 9 0xFFFFFFFFFFFFFFFF base) 9).toInt = -1 ∧
    (readGpr (x 8 0x8000000000000000 base) 8).toInt = -(2 ^ 63) :=
  ⟨permits rfl, all_of (by decide +kernel), by decide +kernel, by decide +kernel, by decide +kernel, by decide +kernel,
    by decide +kernel⟩

/-- Each condition of a branch or a trap both ways, at its boundary: 0 and its neighbours. -/
theorem witness_ConditionalBranches : base.delay = none ∧
    (let s := x 8 0 (x 9 0 base);
      readGpr s 8 = readGpr s 9 ∧ (readGpr s 8).toInt ≤ 0 ∧ ¬ 0 < (readGpr s 8).toInt ∧ ¬ (readGpr s 8).toInt < 0 ∧
      0 ≤ (readGpr s 8).toInt) ∧
    (let s := x 8 1 (x 9 0 base);
      readGpr s 8 ≠ readGpr s 9 ∧ ¬ (readGpr s 8).toInt ≤ 0 ∧ 0 < (readGpr s 8).toInt) ∧
    (let s := x 8 0xFFFFFFFFFFFFFFFF base;
      (readGpr s 8).toInt < 0 ∧ ¬ 0 ≤ (readGpr s 8).toInt) := by decide +kernel

theorem witness_LinkingBranches : base.delay = none ∧ (8 : Reg) ≠ 31 ∧
    (readGpr (x 8 0xFFFFFFFFFFFFFFFF base) 8).toInt < 0 ∧ 0 ≤ (readGpr (x 8 0 base) 8).toInt := by decide +kernel

theorem witness_Jumps : base.delay = none ∧ (10 : Reg) ≠ 8 := by decide

theorem witness_BranchInDelaySlotRefused : inSlot.delay ≠ none ∧ (10 : Reg) ≠ 8 ∧ (8 : Reg) ≠ 31 ∧
    inSlot.cp0.status.getLsbD 29 = true ∧ Cop0Usable inSlot :=
  ⟨by decide, by decide, by decide, by decide, usable rfl⟩

theorem witness_DelaySlotExceptions :
    (∃ t, exec (.beq 0 0 4) base = .next t ∧ t.delay.isSome = true ∧ t.cp0.status.getLsbD 1 = false) ∧
    (base.cp0.status.getLsbD 1 = false ∧ base.delay = none) ∧
    (status 0x34000002 base).cp0.status.getLsbD 1 = true :=
  ⟨⟨_, rfl, rfl, by decide +kernel⟩, ⟨by decide, rfl⟩, by decide⟩

theorem witness_TrapInstructions :
    (let s := x 8 0xFFFFFFFFFFFFFFFF (x 9 0 base);
      ¬ (readGpr s 9).toInt ≤ (readGpr s 8).toInt ∧ (readGpr s 9).toNat ≤ (readGpr s 8).toNat ∧
      (readGpr s 8).toInt < (readGpr s 9).toInt ∧ ¬ (readGpr s 8).toNat < (readGpr s 9).toNat ∧
      readGpr s 8 ≠ readGpr s 9 ∧ readGpr s 8 = BitVec.ofInt 64 (0xFFFF#16).toInt) ∧
    (let s := x 8 7 (x 9 7 base);
      (readGpr s 9).toInt ≤ (readGpr s 8).toInt ∧ readGpr s 8 = readGpr s 9 ∧
      readGpr s 8 ≠ BitVec.ofInt 64 (0xFFFF#16).toInt) := by decide +kernel

theorem witness_SystemInstructions : Cop0Usable base ∧ Cop0Unusable userState ∧
    translate false (ea (x 9 0xFFFFFFFF80001000 base) 9 0) (x 9 0xFFFFFFFF80001000 base) = .ok 0x1000 ∧
    translate false (ea base 0 0x2000) base = .error (.exc (.tlbRefill false false 0x2000)) ∧
    translate false (ea (x 9 0x80000000 base) 9 0) (x 9 0x80000000 base) =
      .error (.exc (.addressError false 0x80000000)) :=
  ⟨usable rfl, user_unusable, by decide +kernel, by decide +kernel, by decide +kernel⟩

/-- The last bytes of populated RDRAM, read and written in every width. -/
def atEnd : State := x 9 0xFFFFFFFF80400000 base

theorem witness_LoadsFromMemory : Permits64 atEnd ∧
    (dataAddress false 1 (ea atEnd 9 0xFFFF) atEnd = .ok 0x3FFFFF ∧ PlainRead 0x3FFFFF 1 atEnd) ∧
    (dataAddress false 2 (ea atEnd 9 0xFFFE) atEnd = .ok 0x3FFFFE ∧ PlainRead 0x3FFFFE 2 atEnd) ∧
    (dataAddress false 4 (ea atEnd 9 0xFFFC) atEnd = .ok 0x3FFFFC ∧ PlainRead 0x3FFFFC 4 atEnd) ∧
    (dataAddress false 8 (ea atEnd 9 0xFFF8) atEnd = .ok 0x3FFFF8 ∧ PlainRead 0x3FFFF8 8 atEnd) :=
  ⟨permits rfl, by unfold PlainRead; decide +kernel, by unfold PlainRead; decide +kernel,
    by unfold PlainRead; decide +kernel, by unfold PlainRead; decide +kernel⟩

/-- Every place in a doubleword. -/
theorem witness_PartialLoads : Permits64 atEnd ∧ ∀ k < 8,
    let o := BitVec.ofNat 16 (0xFFF8 + k);
    let va := ea atEnd 9 o;
    let p : PAddr := BitVec.ofNat 32 (0x3FFFF8 + k);
    let b := va.toNat % 4;
    let c := va.toNat % 8;
    dataAddress false 1 va atEnd = .ok p ∧
    (∀ j < 4 - b, plainRead (p + BitVec.ofNat 32 j) atEnd = true) ∧
    (∀ j < b + 1, plainRead (p - BitVec.ofNat 32 b + BitVec.ofNat 32 j) atEnd = true) ∧
    (∀ j < 8 - c, plainRead (p + BitVec.ofNat 32 j) atEnd = true) ∧
    (∀ j < c + 1, plainRead (p - BitVec.ofNat 32 c + BitVec.ofNat 32 j) atEnd = true) :=
  ⟨permits rfl, by decide +kernel⟩

theorem witness_StoresToMemory : Permits64 atEnd ∧
    (dataAddress true 1 (ea atEnd 9 0xFFFF) atEnd = .ok 0x3FFFFF ∧ PlainWrite 0x3FFFFF 1 atEnd) ∧
    (dataAddress true 2 (ea atEnd 9 0xFFFE) atEnd = .ok 0x3FFFFE ∧ PlainWrite 0x3FFFFE 2 atEnd) ∧
    (dataAddress true 4 (ea atEnd 9 0xFFFC) atEnd = .ok 0x3FFFFC ∧ PlainWrite 0x3FFFFC 4 atEnd) ∧
    (dataAddress true 8 (ea atEnd 9 0xFFF8) atEnd = .ok 0x3FFFF8 ∧ PlainWrite 0x3FFFF8 8 atEnd) :=
  ⟨permits rfl, by unfold PlainWrite; decide +kernel, by unfold PlainWrite; decide +kernel,
    by unfold PlainWrite; decide +kernel, by unfold PlainWrite; decide +kernel⟩

theorem witness_PartialStores : Permits64 atEnd ∧ ∀ k < 8,
    let o := BitVec.ofNat 16 (0xFFF8 + k);
    let va := ea atEnd 9 o;
    let p : PAddr := BitVec.ofNat 32 (0x3FFFF8 + k);
    let b := va.toNat % 4;
    let c := va.toNat % 8;
    dataAddress true 1 va atEnd = .ok p ∧
    ((∀ j < 4 - b, plainWrite (p + BitVec.ofNat 32 j) atEnd = true) ∧ touchedEffects p.toNat (4 - b) = []) ∧
    ((∀ j < b + 1, plainWrite (p - BitVec.ofNat 32 b + BitVec.ofNat 32 j) atEnd = true) ∧
      touchedEffects (p - BitVec.ofNat 32 b).toNat (b + 1) = []) ∧
    ((∀ j < 8 - c, plainWrite (p + BitVec.ofNat 32 j) atEnd = true) ∧ touchedEffects p.toNat (8 - c) = []) ∧
    ((∀ j < c + 1, plainWrite (p - BitVec.ofNat 32 c + BitVec.ofNat 32 j) atEnd = true) ∧
      touchedEffects (p - BitVec.ofNat 32 c).toNat (c + 1) = []) :=
  ⟨permits rfl, by decide +kernel⟩

theorem witness_LinkedAndConditional : Permits64 atEnd ∧ atEnd.llbit = false ∧
    (let s := { atEnd with llbit := true };
      s.llbit = true ∧ dataAddress true 4 (ea s 9 0xFFFC) s = .ok 0x3FFFFC ∧ PlainWrite 0x3FFFFC 4 s ∧
      dataAddress true 8 (ea s 9 0xFFF8) s = .ok 0x3FFFF8 ∧ PlainWrite 0x3FFFF8 8 s) ∧
    (dataAddress false 4 (ea atEnd 9 0xFFFC) atEnd = .ok 0x3FFFFC ∧ PlainRead 0x3FFFFC 4 atEnd ∧
      dataAddress false 8 (ea atEnd 9 0xFFF8) atEnd = .ok 0x3FFFF8 ∧ PlainRead 0x3FFFF8 8 atEnd) :=
  ⟨permits rfl, rfl, by unfold PlainWrite; decide +kernel, by unfold PlainRead; decide +kernel⟩

theorem not64 {i : Instr} {s : State} (h : needs64 i = false) : needs64 i = true → Permits64 s :=
  fun e => absurd (h.symm.trans e) (by decide)

theorem witness_MisalignedAccess :
    (accessOf (.lw 9 8 0xFFFF) = some ⟨false, 4, 9, 0xFFFF⟩ ∧ Ready (.lw 9 8 0xFFFF) atEnd ∧ PlainOrder atEnd ∧
      ((⟨false, 4, 9, 0xFFFF⟩ : Access).address atEnd).toNat % 4 ≠ 0) ∧
    (accessOf (.sdc1 9 3 4) = some ⟨true, 8, 9, 4⟩ ∧ Ready (.sdc1 9 3 4) atEnd ∧
      ((⟨true, 8, 9, 4⟩ : Access).address atEnd).toNat % 8 ≠ 0) ∧
    (PlainOrder { base with pc := 0xFFFFFFFF80002002 } ∧ (0xFFFFFFFF80002002 : Word).toNat % 4 ≠ 0) :=
  ⟨⟨rfl, ⟨not64 rfl, trivial⟩, plainOrder rfl, by decide +kernel⟩,
    ⟨rfl, ⟨not64 rfl, by decide, .inl (by decide)⟩, by decide +kernel⟩, plainOrder rfl, by decide⟩

/-- Kernel mode with KX = 1. -/
def wideKernel : State := status 0x34000080 base

/-- First and last addresses of the segments; the third component is what `segmentOf` says of them. -/
theorem witness_SegmentValidity :
    (modeOf base.cp0.status = some .kernel ∧ modeOf (status 0x34000008 base).cp0.status = some .supervisor ∧
      modeOf userState.cp0.status = some .user ∧ base.cp0.status.getLsbD 7 = false ∧
      wideKernel.cp0.status.getLsbD 7 = true ∧ modeOf wideKernel.cp0.status = some .kernel) ∧
    (∀ va ∈ ([0x80000000, 0xFFFFFFFF7FFFFFFF] : List Word),
      ¬ va.toNat < 2 ^ 31 ∧ ¬ 0xFFFFFFFF80000000 ≤ va.toNat ∧ segmentOf base.cp0.status .kernel va = none) ∧
    (∀ va ∈ ([0xFFFFFFFF80000000, 0xFFFFFFFFBFFFFFFF] : List Word),
      0xFFFFFFFF80000000 ≤ va.toNat ∧ va.toNat < 0xFFFFFFFFC0000000 ∧
      segmentOf base.cp0.status .kernel va = some (.unmapped (BitVec.ofNat 32 (va.toNat % 2 ^ 29)))) ∧
    (∀ va ∈ ([0x9000000000000000, 0x80000000FFFFFFFF] : List Word),
      0x8000000000000000 ≤ va.toNat ∧ va.toNat < 0xC000000000000000 ∧ va.toNat / 2 ^ 32 % 2 ^ 27 = 0 ∧
      segmentOf wideKernel.cp0.status .kernel va = some (.unmapped (BitVec.ofNat 32 va.toNat))) ∧
    (∀ va ∈ ([0, 0x7FFFFFFF] : List Word), va.toNat < 2 ^ 31 ∧
      segmentOf base.cp0.status .kernel va = some .mapped ∧
      segmentOf 0x34000004 .kernel va = some (.unmapped (BitVec.ofNat 32 va.toNat))) ∧
    (∀ va ∈ ([0xFFFFFFFFC0000000, 0xFFFFFFFFFFFFFFFF] : List Word), 0xFFFFFFFFC0000000 ≤ va.toNat ∧
      segmentOf base.cp0.status .kernel va = some .mapped) :=
  ⟨by decide, all_of (by decide +kernel), all_of (by decide +kernel), all_of (by decide +kernel),
    all_of (by decide +kernel), all_of (by decide +kernel)⟩

/-- A TLB whose entry n is e and whose other entries match nothing. -/
def withEntry (n : Fin 32) (e : TlbEntry) (s : State) : State := { s with tlb := s.tlb.set n e }

theorem witness_TlbTranslation :
    (∀ i : Fin 32, ¬ TlbMatches base.tlb[i] 0x2000 base) ∧
    (let s := withEntry 3 pair (withEntry 7 pair base);
      TlbMatches s.tlb[(3 : Fin 32)] 0x2000 s ∧ TlbMatches s.tlb[(7 : Fin 32)] 0x2000 s) ∧
    (let s := withEntry 3 pair base;
      (∀ j : Fin 32, TlbMatches s.tlb[j] 0x2FFF s ↔ j = 3) ∧ s.tlb[(3 : Fin 32)].mask.toNat = 2 ^ 0 - 1 ∧
      s.tlb[(3 : Fin 32)].page0.v = true ∧ s.tlb[(3 : Fin 32)].page0.d = true ∧
      (∀ j : Fin 32, TlbMatches s.tlb[j] 0x3000 s ↔ j = 3) ∧ s.tlb[(3 : Fin 32)].page1.v = false) ∧
    (let s := withEntry 3 { pair with mask := 0xFFF, page1 := { page 1 with d := false } } base;
      (∀ j : Fin 32, TlbMatches s.tlb[j] 0x1FFFFFF s ↔ j = 3) ∧ s.tlb[(3 : Fin 32)].mask.toNat = 2 ^ 12 - 1 ∧
      s.tlb[(3 : Fin 32)].page1.v = true ∧ s.tlb[(3 : Fin 32)].page1.d = false) ∧
    (let s := withEntry 31 { pair with mask := 1 } base;
      (∀ j : Fin 32, TlbMatches s.tlb[j] 0x2000 s ↔ j = 31) ∧
      ∀ k ∈ [0, 2, 4, 6, 8, 10, 12], s.tlb[(31 : Fin 32)].mask.toNat ≠ 2 ^ k - 1) := by
  unfold TlbMatches
  refine ⟨by decide +kernel, by decide +kernel, ⟨by decide +kernel, by decide +kernel, by decide +kernel,
    by decide +kernel, by decide +kernel, by decide +kernel⟩, ⟨by decide +kernel, by decide +kernel⟩,
    by decide +kernel, by decide +kernel⟩

theorem witness_AccessExceptions :
    (accessOf (.sw 0 8 0x2000) = some ⟨true, 4, 0, 0x2000⟩ ∧ Ready (.sw 0 8 0x2000) base ∧
      dataAddress true 4 (ea base 0 0x2000) base = .error (.exc (.tlbRefill true false 0x2000))) ∧
    fetchAddress 0x400 { base with pc := 0x400 } = .error (.exc (.tlbRefill false false 0x400)) :=
  ⟨⟨rfl, ⟨not64 rfl, trivial⟩, by decide +kernel⟩, by decide +kernel⟩

/-- Loads of the doubleword at physical 0x1000 are watched. -/
def watching : State := c0 18 0x1002 base

theorem witness_WatchAndByteOrder :
    (PlainOrder watching ∧ translate false 0xFFFFFFFF80001007 watching = .ok 0x1007 ∧
      (0x1007 : PAddr).toNat / 8 = watching.cp0.watchLo.toNat / 8 ∧ watching.cp0.watchHi = 0 ∧
      watching.cp0.watchLo.getLsbD 1 = true ∧ watching.cp0.status.getLsbD 1 = false ∧
      watching.cp0.status.getLsbD 2 = false) ∧
    (status 0x34000002 watching).cp0.status.getLsbD 1 = true ∧
    ((0x1008 : PAddr).toNat / 8 ≠ watching.cp0.watchLo.toNat / 8 ∧ watching.cp0.watchLo.getLsbD 0 = false) ∧
    (let s := user 0x26000010 base;
      modeOf s.cp0.status = some .user ∧ s.cp0.status.getLsbD 25 = true ∧
      accessOf (.lb 9 8 0) = some ⟨false, 1, 9, 0⟩ ∧ Ready (.lb 9 8 0) s) :=
  ⟨⟨⟨.kernel, by decide +kernel, fun h => by cases h⟩, by decide +kernel⟩, by decide +kernel, by decide +kernel,
    by decide, by decide, rfl, ⟨not64 rfl, trivial⟩⟩

theorem witness_BusFaults :
    (let s := x 9 0xFFFFFFFFA5000000 base;
      accessOf (.lw 9 8 0) = some ⟨false, 4, 9, 0⟩ ∧ Ready (.lw 9 8 0) s ∧
      dataAddress false 4 (ea s 9 0) s = .ok 0x05000000 ∧ resolve (firstByte (.lw 9 8 0) 0x05000000) = none) ∧
    (dataAddress true 1 (ea atEnd 9 3) atEnd = .ok 0x400003 ∧ firstByte (.swr 9 8 3) 0x400003 = 0x400000 ∧
      atEnd.rdramSize ≤ (0x400000 : PAddr).toNat ∧ (0x400000 : PAddr).toNat ≤ 0x03EFFFFF) ∧
    (let s := x 9 0xFFFFFFFF83EFFFFC { base with llbit := true };
      s.llbit = true ∧ dataAddress true 4 (ea s 9 0) s = .ok 0x03EFFFFC ∧ s.rdramSize ≤ (0x03EFFFFC : PAddr).toNat) :=
  ⟨⟨rfl, ⟨not64 rfl, trivial⟩, by decide +kernel, by decide +kernel⟩, by decide +kernel, by decide +kernel⟩

theorem witness_SilentDevices : Permits64 base ∧
    (resolve 0x10000000 = some (.cartRom, 0) ∧ resolve 0x1FC007B8 = some (.pifRom, 0x7B8) ∧
      resolve 0x04300008 = some (.miReg, 8)) ∧
    (let s := x 9 0xFFFFFFFFB0000000 base;
      dataAddress true 1 (ea s 9 0) s = .ok 0x10000000 ∧ dataAddress true 2 (ea s 9 0) s = .ok 0x10000000 ∧
      dataAddress true 4 (ea s 9 0) s = .ok 0x10000000 ∧ dataAddress true 8 (ea s 9 0) s = .ok 0x10000000) ∧
    (let s := x 9 0xFFFFFFFFA4300008 base;
      dataAddress false 1 (ea s 9 0) s = .ok 0x04300008 ∧ dataAddress false 2 (ea s 9 0) s = .ok 0x04300008 ∧
      dataAddress false 4 (ea s 9 0) s = .ok 0x04300008 ∧ dataAddress false 8 (ea s 9 0) s = .ok 0x04300008 ∧
      dataAddress true 4 (ea s 9 0) s = .ok 0x04300008 ∧ s.cp0.status.getLsbD 29 = true) ∧
    (let s := bytes 0x1FBFFFF8 [1, 2, 3, 4, 5, 6, 7, 8] (x 9 0xFFFFFFFFBFBFFFF8 base);
      resolve 0x1FBFFFF8 = some (.cartRom, 0x0FBFFFF8) ∧
      dataAddress false 1 (ea s 9 0) s = .ok 0x1FBFFFF8 ∧ dataAddress false 2 (ea s 9 0) s = .ok 0x1FBFFFF8 ∧
      dataAddress false 4 (ea s 9 0) s = .ok 0x1FBFFFF8 ∧ dataAddress false 8 (ea s 9 0) s = .ok 0x1FBFFFF8 ∧
      ∀ k < 8, Memory.lookup (0x1FBFFFF8 + k) s.mem ≠ none) :=
  ⟨permits rfl, by decide +kernel, by decide +kernel, by decide +kernel, by decide +kernel⟩

theorem witness_MoveFromCop0 : Cop0Usable base ∧ Cop0Unusable userState ∧
    (12 : Reg).toNat ∉ [1, 7, 21, 22, 23, 24, 25, 31] ∧ (1 : Reg).toNat = 1 ∧
    (c0 6 31 base).cp0.wired.toNat ≤ 31 ∧ (31 : Reg).toNat ∈ [7, 21, 22, 23, 24, 25, 31] :=
  ⟨usable rfl, user_unusable, by decide, by decide, by decide +kernel, by decide⟩

theorem status_of_base : base.cp0.status &&& ~~~statusMask = 0 := by decide

theorem config_of_base : Config.configReset &&& 0x80FFFFF0 = 0x0006E460 := by
  unfold Config.configReset
  rw [BitVec.and_or_distrib_right, BitVec.and_assoc]
  have h : (0x7000000F#32 &&& 0x80FFFFF0 : Word32) = 0 := by decide
  rw [h]
  simp

theorem inv_base : Inv base where
  memory := rfl
  zero := by decide +kernel
  status := status_of_base
  fcr31 := by decide
  random := fun _ => by decide
  config := config_of_base
  watchLo := by decide
  tagLo := by decide
  pins := by decide
  timer := rfl
  ids := ⟨rfl, rfl⟩
  blocks := by
    intro blk k
    have h : writeSide blk k base = 0 := by
      have z (n : Nat) : (List.replicate n (0 : Word32)).getD k 0 = 0 := by
        simp only [List.getD_eq_getElem?_getD, List.getElem?_replicate]; split <;> rfl
      cases blk <;> exact z _
    rw [h]; simp
  resets := ⟨rfl, rfl, rfl⟩

theorem inv_gpr {s : State} (h : Inv s) (r : Reg) (v : Word) : Inv (x r v s) := by
  unfold x writeGpr
  split
  · exact h
  · rename_i hr
    have hn : r.toNat ≠ 0 := fun e => hr (by apply BitVec.eq_of_toNat_eq; simpa using e)
    exact { memory := h.memory, zero := by simpa [Vector.getElem_set, hn] using h.zero, status := h.status
            fcr31 := h.fcr31, random := h.random, config := h.config, watchLo := h.watchLo, tagLo := h.tagLo
            pins := h.pins, timer := h.timer, ids := h.ids, blocks := h.blocks, resets := h.resets }

theorem witness_MoveToCop0 : Inv (x 8 0x8000 base) ∧ Cop0Usable (x 8 0x8000 base) ∧ Cop0Unusable userState ∧
    (12 : Reg).toNat ≠ 16 ∧
    (((readGpr (x 8 0x8000 base) 8).setWidth 32).signExtend 64).getLsbD 15 = true ∧
    (((readGpr (x 8 0x7FFF base) 8).setWidth 32).signExtend 64).getLsbD 15 = false :=
  ⟨inv_gpr inv_base 8 0x8000, usable rfl, user_unusable, by decide, by decide +kernel, by decide +kernel⟩

theorem witness_DoubleMovesOfCop0 : Cop0Usable base ∧ Permits64 base ∧
    (14 : Reg).toNat ∈ [2, 3, 4, 8, 10, 14, 20, 30] ∧ (1 : Reg).toNat ∈ [1, 7, 15, 21, 22, 23, 24, 25, 27, 29, 31] ∧
    (12 : Reg).toNat ∉ [2, 3, 4, 8, 10, 14, 20, 30] ∧
    (12 : Reg).toNat ∉ [1, 7, 15, 21, 22, 23, 24, 25, 27, 29, 31] ∧
    (let s := user 0x34000010 base;
      Cop0Usable s ∧ Forbids64 s) :=
  ⟨usable rfl, permits rfl, by decide, by decide, by decide, by decide,
    ⟨.user, by decide, by decide⟩, ⟨.user, by decide, by decide⟩⟩

theorem witness_TlbInstructions : Cop0Usable base ∧
    (c0 0 31 base).cp0.index.index.toNat = 31 ∧ (c0 0 32 base).cp0.index.index.toNat = 32 ∧
    (c0 6 31 base).cp0.wired.toNat = 31 ∧ (c0 6 32 base).cp0.wired.toNat = 32 ∧
    (let probed (s : State) (e : TlbEntry) : Bool := e.r == s.cp0.entryHi.r && (e.g || e.asid == s.cp0.entryHi.asid) &&
        (List.range 27).all fun k => e.mask.getLsbD k || (e.vpn2.getLsbD k == s.cp0.entryHi.vpn2.getLsbD k)
      let s := c0 10 0x2000 base;
      (∀ i : Fin 32, probed s s.tlb[i] = false) ∧
      (∀ j : Fin 32, probed (withEntry 31 pair s) (withEntry 31 pair s).tlb[j] = true ↔ j = 31) ∧
      (let u := withEntry 3 pair (withEntry 31 pair s);
        probed u u.tlb[(3 : Fin 32)] = true ∧ probed u u.tlb[(31 : Fin 32)] = true)) :=
  ⟨usable rfl, by decide +kernel, by decide +kernel, by decide +kernel, by decide +kernel, by decide +kernel⟩

theorem witness_ReturnFromException : Cop0Usable base ∧ base.delay = none ∧ base.cp0.status.getLsbD 2 = false ∧
    (∃ m, modeOf (status 0x34000006 base).cp0.status = some m ∧ cop0Usable (status 0x34000006 base).cp0.status m = true) ∧
    (status 0x34000006 base).cp0.status.getLsbD 2 = true :=
  ⟨usable rfl, rfl, by decide, ⟨.kernel, by decide, by decide⟩, by decide⟩

theorem witness_PrivilegedInstructions : Cop0Unusable userState ∧
    (∀ i ∈ ([.mfc0 8 12, .eret, .tlbp, .cache 9 0 0] : List Instr), (opF (encode i)).toNat ∈ [16, 47]) ∧
    noCu1.cp0.status.getLsbD 29 = false ∧
    (∀ i ∈ ([.addS 4 2 0, .bc1t 4, .lwc1 9 2 0, .sdc1 9 2 0] : List Instr),
      (opF (encode i)).toNat ∈ [17, 49, 53, 57, 61]) ∧
    (Forbids64 userState ∧ needs64 (.ld 9 8 0) = true ∧ (opF (encode (.ld 9 8 0))).toNat ≠ 16) ∧
    (let s := user 0x34000010 base;
      Forbids64 s ∧ needs64 (.dmfc0 8 14) = true ∧ ¬ Cop0Unusable s) ∧
    modeOf base.cp0.status = some .kernel := by
  refine ⟨user_unusable, by decide +kernel, by decide, by decide +kernel, ⟨user_forbids, rfl, by decide +kernel⟩,
    ⟨⟨.user, by decide, by decide⟩, rfl, ?_⟩, by decide⟩
  rintro ⟨m, h, hu⟩
  have hm : modeOf (user 0x34000010 base).cp0.status = some .user := by decide
  rw [hm] at h
  cases h
  revert hu
  decide

theorem witness_FloatLoadsAndStores : atEnd.cp0.status.getLsbD 29 = true ∧ atEnd.cp0.status.getLsbD 26 = true ∧
    (dataAddress false 4 (ea atEnd 9 0xFFFC) atEnd = .ok 0x3FFFFC ∧ PlainRead 0x3FFFFC 4 atEnd ∧
      dataAddress false 8 (ea atEnd 9 0xFFF8) atEnd = .ok 0x3FFFF8 ∧ PlainRead 0x3FFFF8 8 atEnd) ∧
    (dataAddress true 4 (ea atEnd 9 0xFFFC) atEnd = .ok 0x3FFFFC ∧ PlainWrite 0x3FFFFC 4 atEnd ∧
      dataAddress true 8 (ea atEnd 9 0xFFF8) atEnd = .ok 0x3FFFF8 ∧ PlainWrite 0x3FFFF8 8 atEnd) ∧
    (base.fgrLowFr[31] = base.cp0.status.getLsbD 26 ∧ base.fgrHighFr[31] = base.cp0.status.getLsbD 26 ∧
      fr0.cp0.status.getLsbD 26 = false) ∧
    (∃ t u, exec (.mtc0 8 12) (x 8 0x30000000 (x 9 0x34000000 base)) = .next t ∧ exec (.mtc0 9 12) t = .next u ∧
      t.cp0.status.getLsbD 26 = false ∧ u.cp0.status.getLsbD 26 = base.cp0.status.getLsbD 26) :=
  ⟨by decide, by decide, by unfold PlainRead; decide +kernel, by unfold PlainWrite; decide +kernel, by decide +kernel,
    _, _, rfl, rfl, by decide +kernel, by decide +kernel⟩

theorem witness_FloatMoves : base.cp0.status.getLsbD 29 = true ∧ (0 : Reg).toNat = 0 ∧ (31 : Reg).toNat = 31 ∧
    (30 : Reg).toNat ≠ 0 ∧ (30 : Reg).toNat ≠ 31 ∧
    (let f := (readGpr (x 8 0x00010800 base) 8).setWidth 32 &&& (0x0183FFFF : Word32);
      Traps f (f.extractLsb' 12 6)) ∧
    (let f := (readGpr (x 8 0x00020000 base) 8).setWidth 32 &&& (0x0183FFFF : Word32);
      Traps f (f.extractLsb' 12 6)) ∧
    (let f := (readGpr (x 8 0x00010000 base) 8).setWidth 32 &&& (0x0183FFFF : Word32);
      ¬ Traps f (f.extractLsb' 12 6)) :=
  ⟨by decide, by decide, by decide, by decide, by decide, by unfold Traps; decide +kernel,
    by unfold Traps; decide +kernel, by unfold Traps; decide +kernel⟩

theorem witness_FloatBranches : base.delay = none ∧ base.cp0.status.getLsbD 29 = true ∧
    base.fcr31.getLsbD 23 = false ∧ (0x00800000 : Word32).getLsbD 23 = true := by decide

/-- A default environment of arithmetic: round to nearest, FS = 0. -/
def nearest : FpEnv := { rm := 0, fs := false, enable := 0 }

/-- 1 / 0 traps when Enable Z is set and does not when it is clear; an operand the unit does not implement always
traps (vectors FA21, FA22, FA7). -/
theorem witness_FloatArithmetic : base.cp0.status.getLsbD 29 = true ∧
    Traps 0x00000400 (fpDiv .single { nearest with enable := 8 } 0x3F800000 0).cause ∧
    ¬ Traps 0 (fpDiv .single nearest 0x3F800000 0).cause ∧
    Traps 0 (fpAdd .single nearest 0x3F800000 1).cause ∧ ¬ Traps 0 (fpAdd .single nearest 0x3F800000 0).cause := by
  unfold Traps; decide +kernel

/-- Vectors FV1, FV10, and FV1 with Enable I. -/
theorem witness_FloatToFixed : base.cp0.status.getLsbD 29 = true ∧
    ¬ Traps 0 (fpToL .single 0 0x40200000).cause ∧ Traps 0 (fpToW .single 1 0x4F000000).cause ∧
    Traps 0x80 (fpToL .single 0 0x40200000).cause := by
  unfold Traps; decide +kernel

theorem witness_FloatCompares : base.cp0.status.getLsbD 29 = true ∧
    ¬ Traps 0 (fpCompare .single 12 0x3F800000 0x40000000).cause ∧
    Traps 0x800 (fpCompare .single 12 0x3F800000 0x7FBFFFFF).cause := by
  unfold Traps; decide +kernel

theorem witness_FloatResults :
    (fpClass .single 0x7FBFFFFF = .qnan ∧ fpClass .single 0 = .zero ∧ fpClass .single 0x4F000000 = .normal ∧
      fpClass .double 0x4340000000000000 = .normal) ∧
    (fpReal .single 0 = 0 ∧ FitsWord (roundedTo 0 (fpReal .single 0))) ∧
    (fpReal .single 0x4F000000 = 2 ^ 31 ∧ ¬ FitsWord (roundedTo 1 (fpReal .single 0x4F000000)) ∧
      |fpReal .single 0x4F000000| < 2 ^ 53) ∧
    (fpReal .double 0x4340000000000000 = 2 ^ 53 ∧ 2 ^ 53 ≤ |fpReal .double 0x4340000000000000|) ∧
    (fpReal .single 0x4F000000 + fpReal .single 0 ≠ 0 ∧ fpReal .single 0 + fpReal .single 0 = 0 ∧
      0 < fpReal .single 0x4F000000 ∧ fpReal .single 0xCF000000 < 0 ∧ fpClass .single 0xCF000000 = .normal ∧
      fpReal .single 0x4F000000 + fpReal .single 0xCF000000 = 0) ∧
    (((0xFFFFFFFF : Word).setWidth 32).toInt ≠ 0 ∧ (0xFF80000000000000 : Word).toInt = -(2 ^ 55) ∧
      2 ^ 55 ≤ (0x0080000000000000 : Word).toInt ∧ (0xFF7FFFFFFFFFFFFF : Word).toInt < -(2 ^ 55)) ∧
    (fpClass .single 1 = .denormal ∧ fpClass .double 0x7FF8000000000000 = .snan ∧ fpClass .single 0x7F800000 = .infinity ∧
      fpClass .double 0xFFF0000000000000 = .infinity ∧ fpSign .double 0xFFF0000000000000 = true ∧
      fpSign .single 0x7F800000 = false) := by
  have h0 : fpReal .single 0 = 0 := by
    have e : fpExp .single 0 = 0 := by decide +kernel
    have f : fpFrac .single 0 = 0 := by decide +kernel
    simp only [fpReal, e, f]
    norm_num
  have h1 : fpReal .single 0x4F000000 = 2 ^ 31 := by
    have e : fpExp .single 0x4F000000 = 158 := by decide +kernel
    have f : fpFrac .single 0x4F000000 = 0 := by decide +kernel
    have g : fpSign .single 0x4F000000 = false := by decide +kernel
    simp only [fpReal, e, f, g]
    norm_num [Fmt.precision, Fmt.emax]
  have h2 : fpReal .double 0x4340000000000000 = 2 ^ 53 := by
    have e : fpExp .double 0x4340000000000000 = 1076 := by decide +kernel
    have f : fpFrac .double 0x4340000000000000 = 0 := by decide +kernel
    have g : fpSign .double 0x4340000000000000 = false := by decide +kernel
    simp only [fpReal, e, f, g]
    norm_num [Fmt.precision, Fmt.emax]
  have h3 : fpReal .single 0xCF000000 = -(2 ^ 31) := by
    have e : fpExp .single 0xCF000000 = 158 := by decide +kernel
    have f : fpFrac .single 0xCF000000 = 0 := by decide +kernel
    have g : fpSign .single 0xCF000000 = true := by decide +kernel
    simp only [fpReal, e, f, g]
    norm_num [Fmt.precision, Fmt.emax]
  refine ⟨by decide +kernel, ⟨h0, ?_⟩, ⟨h1, ?_, ?_⟩, ⟨h2, ?_⟩, ?_, by decide +kernel, by decide +kernel⟩
  · rw [h0]; norm_num [roundedTo, nearestEven, FitsWord]
  · have m : (1 : BitVec 2) ≠ 0 := by decide
    rw [h1]; norm_num [roundedTo, FitsWord, m]
  · rw [h1]; norm_num
  · rw [h2]; norm_num
  · rw [h0, h1, h3]
    exact ⟨by norm_num, by norm_num, by norm_num, by norm_num, by decide +kernel, by norm_num⟩

theorem witness_CompareByValue :
    (fpClass .single 0x7FC00000 = .snan ∧ fpClass .single 0x7FBFFFFF = .qnan) ∧
    ¬ (fpClass .single 0x3F800000 = .snan ∨ fpClass .single 0x3F800000 = .qnan) ∧
    ¬ (fpClass .single 0x7F800000 = .snan ∨ fpClass .single 0x7F800000 = .qnan) ∧
    ¬ (fpClass .single 1 = .snan ∨ fpClass .single 1 = .qnan) := by decide +kernel

/-- A pending enabled line; none; and the one-shot condition. -/
theorem witness_InterruptService :
    (let s := { status 0x34000401 base with intPins := 1 };
      s.cp0.status.getLsbD 0 = true ∧ s.cp0.status.getLsbD 1 = false ∧ s.cp0.status.getLsbD 2 = false ∧
      s.intPins.getLsbD (2 - 2) = true ∧ s.cp0.status.getLsbD (8 + 2) = true) ∧
    (status 0x34000400 base).cp0.status.getLsbD 0 = false ∧
    (let s := { status 0x34008001 base with timerCond := true };
      s.timerCond = true ∧ s.cp0.status.getLsbD 15 = true ∧ s.cp0.status.getLsbD 0 = true ∧
      s.cp0.status.getLsbD 1 = false ∧ s.cp0.status.getLsbD 2 = false) := by decide

theorem witness_TimerStep :
    (let s := c0 9 0xFFFFFFFF base;
      BitVec.ofNat 32 (s.cp0.count.toNat + 1) = s.cp0.compare) ∧
    (let s := c0 9 0 base;
      BitVec.ofNat 32 (s.cp0.count.toNat + 1) ≠ s.cp0.compare) := by decide +kernel

theorem witness_ModeDecoding :
    (modeOf 0x00000002 = some .kernel ∧ (0x00000002 : Word32).getLsbD 1 = true ∧
      (0x00000008 : Word32).toNat / 8 % 4 = 1 ∧ (0x00000010 : Word32).toNat / 8 % 4 = 2 ∧
      (0x00000018 : Word32).toNat / 8 % 4 = 3) ∧
    modeOf (beginTick (status 0x34000018 base)).cp0.status = none ∧
    (∃ t, exec .eret (status 0x34000012 base) = .next t ∧
      modeOf (status 0x34000012 base).cp0.status = some .kernel ∧ modeOf t.cp0.status ≠ some .kernel) :=
  ⟨by decide, by decide +kernel, _, rfl, by decide, by decide +kernel⟩

theorem witness_UserIsolation :
    (∃ t, exec (.addiu 0 8 1) userState = .next t) ∧ (∃ t, exec (.syscall 0) userState = .next t) ∧
    modeOf userState.cp0.status = some .user ∧ userState.cp0.status.getLsbD 28 = false :=
  ⟨next_of (by decide +kernel), next_of (by decide +kernel), by decide, by decide⟩

theorem witness_StateWriters :
    (∃ t, exec (.mthi 8) (x 8 5 base) = .next t ∧ t.hi ≠ base.hi) ∧
    (∃ t, exec .eret { base with llbit := true } = .next t ∧ t.llbit ≠ true) ∧
    (∃ t, exec .tlbwi (c0 10 0x2000 base) = .next t ∧ t.tlb ≠ base.tlb) :=
  ⟨⟨_, rfl, by decide +kernel⟩, ⟨_, rfl, by decide⟩, ⟨_, rfl, by decide +kernel⟩⟩

/-- Every register of the five blocks is reached by a load and by a store. -/
theorem witness_RegisterBlocks : (∀ v, Inv (x 9 v base)) ∧
    ∀ row ∈ ([(0x04400000, 14), (0x04600000, 13), (0x04800000, 7), (0x04040000, 8), (0x04080000, 2)]
        : List (Nat × Nat)),
      let s := x 9 (BitVec.ofNat 64 (0xFFFFFFFFA0000000 + row.1)) base;
      ∀ k < row.2, dataAddress true 4 (ea s 9 (BitVec.ofNat 16 (4 * k))) s = .ok (BitVec.ofNat 32 (row.1 + 4 * k)) ∧
        dataAddress false 4 (ea s 9 (BitVec.ofNat 16 (4 * k))) s = .ok (BitVec.ofNat 32 (row.1 + 4 * k)) :=
  ⟨fun _ => inv_gpr inv_base _ _, all_of (by decide +kernel)⟩

/-- The registers, the transfer that fills a bank to its end, and one that would leave it. -/
theorem witness_SignalProcessorRegisters :
    (let s := spReady 0x1FF8 0x3FFFF8 (x 12 7 (x 9 0xFFFFFFFFA4040000 base));
      dataAddress true 4 (ea s 9 0x10) s = .ok 0x04040010 ∧ dataAddress false 4 (ea s 9 0x10) s = .ok 0x04040010 ∧
      dataAddress false 4 (ea s 9 0x1C) s = .ok 0x0404001C ∧ dataAddress true 4 (ea s 9 0x1C) s = .ok 0x0404001C ∧
      dataAddress true 4 (ea s 9 8) s = .ok 0x04040008 ∧ dataAddress true 4 (ea s 9 0xC) s = .ok 0x0404000C ∧
      ((readGpr s 12).setWidth 32 : Word32).toNat < 2 ^ 12 ∧ ((readGpr s 12).setWidth 32 : Word32).toNat % 2 ^ 12 + 1 = 8 ∧
      s.spRegs[0].toNat % 2 ^ 12 = 0xFF8 ∧ s.spRegs[0].getLsbD 12 = true ∧ 0xFF8 + 8 ≤ 0x1000 ∧
      s.spRegs[1].toNat % 2 ^ 24 = 0x3FFFF8 ∧ 0x3FFFF8 + 8 ≤ s.rdramSize) ∧
    (let s := spReady 0x0FF8 0x2000 (x 12 0xF base);
      s.spRegs[1].toNat % 2 ^ 24 + 16 ≤ s.rdramSize ∧ ¬ s.spRegs[0].toNat % 2 ^ 12 + (((readGpr s 12).setWidth 32 : Word32).toNat % 2 ^ 12 + 1) ≤ 0x1000) ∧
    (let s := spReady 0x1FF0 0x3FFFF8 (x 12 0xF base);
      s.rdramSize < s.spRegs[1].toNat % 2 ^ 24 + (((readGpr s 12).setWidth 32 : Word32).toNat % 2 ^ 12 + 1)) := by
  decide +kernel

/-- Copies that end at the end of populated RDRAM, into it and out of it, one that leaves it, and one bad alignment. -/
theorem witness_CartridgeTransfer :
    (let s := bytes 0x10000000 [1, 2] (piReady 0x3FFFF8 0x10000000 (x 9 0xFFFFFFFFA4600000 (x 8 7 base)));
      dataAddress true 4 (ea s 9 0xC) s = .ok 0x0460000C ∧ dataAddress true 4 (ea s 9 8) s = .ok 0x04600008 ∧
      (readGpr s 8).toNat % 2 ^ 24 + 1 = 8 ∧
      s.piRegs[0].toNat % 2 ^ 24 = 0x3FFFF8 ∧ 0x3FFFF8 % 8 = 0 ∧ s.piRegs[1].toNat = 0x10000000 ∧
      0x3FFFF8 + 8 ≤ s.rdramSize ∧ 0x10000000 + 8 ≤ 0x1FC007C0 ∧
      ∀ k < 2, Memory.lookup (0x10000000 + k) s.mem ≠ none) ∧
    (let s := piReady 0x3FFFF8 0x1FC007B0 (x 9 0xFFFFFFFFA4600000 (x 8 15 base));
      dataAddress true 4 (ea s 9 0xC) s = .ok 0x0460000C ∧ s.rdramSize < s.piRegs[0].toNat % 2 ^ 24 + 16 ∧
      s.piRegs[1].toNat + 16 ≤ 0x1FC007C0) ∧
    (let s := piReady 0x400 0x04001FF8 (x 9 0xFFFFFFFFA4600000 (x 8 7 base));
      dataAddress true 4 (ea s 9 8) s = .ok 0x04600008 ∧ 0x04000000 ≤ s.piRegs[1].toNat ∧
      s.piRegs[1].toNat + 8 ≤ 0x04002000 ∧ s.piRegs[1].toNat % 2 = 0) ∧
    (let s := piReady 0x3FFFF8 0x04001FF0 (x 9 0xFFFFFFFFA4600000 (x 8 15 base));
      dataAddress true 4 (ea s 9 8) s = .ok 0x04600008 ∧ s.rdramSize < s.piRegs[0].toNat % 2 ^ 24 + 16 ∧
      s.piRegs[1].toNat + 16 ≤ 0x04002000) ∧
    (let s := piReady 4 0x10000000 (x 9 0xFFFFFFFFA4600000 base);
      dataAddress true 4 (ea s 9 0xC) s = .ok 0x0460000C ∧ s.piRegs[0].toNat % 2 ^ 24 % 8 ≠ 0) := by decide +kernel

/-- PIF RAM that begins with these bytes. -/
def pifBytes (l : List Byte) : State := bytes 0x1FC007C0 l (x 9 0xFFFFFFFFBFC007C0 (x 8 1 base))

/-- 64 bytes of RDRAM that begin with these and end in a command byte, staged for the serial interface. -/
def siReady (ram : Nat) (l : List Byte) (c : Byte) : State :=
  let s := bytes ram l (bytes (ram + 63) [c] (x 9 0xFFFFFFFFA4800000 base));
  { s with siRegs := s.siRegs.set 0 (BitVec.ofNat 32 ram) }

theorem witness_PifCommands :
    dataAddress true 1 (ea (pifBytes []) 9 0x3F) (pifBytes []) = .ok 0x1FC007FF ∧
    ((0x02 : Byte) &&& 0xB6 ≠ 0 ∧ (0x80 : Byte) &&& 0xB6 ≠ 0) ∧
    ((0x41 : Byte) &&& 0xB6 = 0 ∧ (0x41 : Byte) &&& 0x40 ≠ 0) ∧ ((0x08 : Byte) &&& 0xB6 = 0 ∧ (0x08 : Byte) &&& 0x41 = 0) ∧
    (let s := pifBytes [1, 3, 0xFF, 0, 0, 0, 0xFE];
      memByte 0x1FC007C0 s = 1 ∧ memByte 0x1FC007C1 s = 3 ∧ memByte 0x1FC007C2 s = 0xFF ∧ memByte 0x1FC007C6 s = 0xFE ∧
      (readGpr s 8).setWidth 8 = (1 : Byte)) ∧
    (let s := pifBytes [1, 4, 1, 0, 0, 0, 0, 0xFE];
      memByte 0x1FC007C0 s = 1 ∧ memByte 0x1FC007C1 s = 4 ∧ memByte 0x1FC007C2 s = 1 ∧ memByte 0x1FC007C7 s = 0xFE) ∧
    (let s := siReady 0x3FFFC0 [1, 3, 0xFF, 0, 0, 0, 0xFE] 1;
      dataAddress true 4 (ea s 9 0x10) s = .ok 0x04800010 ∧ dataAddress true 4 (ea s 9 4) s = .ok 0x04800004 ∧
      s.siRegs[0].toNat % 2 ^ 24 = 0x3FFFC0 ∧ 0x3FFFC0 % 8 = 0 ∧ 0x3FFFC0 + 64 ≤ s.rdramSize ∧
      memByte 0x3FFFC0 s = 1 ∧ memByte 0x3FFFC1 s = 3 ∧ memByte 0x3FFFC2 s = 0xFF ∧ memByte 0x3FFFC6 s = 0xFE ∧
      memByte 0x3FFFFF s = 1) ∧
    (memByte 0x43F (siReady 0x400 [] 0x41) = 0x41 ∧ memByte 0x43F (siReady 0x400 [] 8) = 8 ∧
      memByte 0x43F (siReady 0x400 [] 2) = 2 ∧
      (siReady 0x3FFFE0 [] 0).rdramSize < (siReady 0x3FFFE0 [] 0).siRegs[0].toNat % 2 ^ 24 + 64 ∧
      (siReady 0x3FFFE0 [] 0).siRegs[0].toNat % 2 ^ 24 % 8 = 0 ∧ (siReady 0x404 [] 0).siRegs[0].toNat % 2 ^ 24 % 8 ≠ 0) := by
  decide +kernel

theorem witness_ResetEvents :
    (let s := { base with softResetPin := true };
      s.inputs = [] ∧ s.coldResetPin = false ∧ (s.softResetPin = true ∨ s.nmiPin = true)) ∧
    (let s := { base with nmiPin := true };
      s.inputs = [] ∧ s.coldResetPin = false ∧ (s.softResetPin = true ∨ s.nmiPin = true)) ∧
    (let s := { base with coldResetPin := true };
      s.inputs = [] ∧ s.coldResetPin = true ∧ s.mem.wf = true) ∧
    (let s := { base with inputs := [[.push 3 0x8000 true false true true]] };
      s.inputs = [.push 3 0x8000 true false true true] :: [] ∧ s.coldResetPin = false ∧ s.softResetPin = false ∧
      s.nmiPin = false ∧ s.spStatus.halt = true) ∧
    (∀ m ∈ ([.pins 0x15, .coldReset, .softReset, .nmi] : List EnvMove),
      ({ base with inputs := [[m], [.nmi]] } : State).inputs = [m] :: [[.nmi]]) ∧
    (let s := { base with spStatus := { SpStatus.reset with halt := false } };
      s.spStatus.halt = false ∧ (0x04001FFF : PAddr).toNat < 0x04002000 ∧ (0x003FFFFF : PAddr).toNat < s.rdramSize ∧
      ¬ (0x00400000 : PAddr).toNat < s.rdramSize) :=
  ⟨by decide, by decide, by decide, by decide, fun _ _ => rfl, by decide⟩

theorem step_next_of {s : State} (h : isNext (instructionStep (beginTick s)) = true) : ∃ t, step s = .next t := by
  obtain ⟨t, ht⟩ := next_of h
  exact ⟨afterInstruction t, by rw [step, ht]; rfl⟩

theorem inv_bytes {s : State} (h : Inv s) (a : Nat) (l : List Byte) : Inv (setMemBytes a l s) := by
  have hm := wf_setMemBytes a l s h.memory
  rw [setMemBytes_eq] at hm ⊢
  have hb : BlocksMasked { s with mem := (setMemBytes a l s).mem } := by
    intro blk k
    have := h.blocks blk k
    cases blk <;> exact this
  exact { h with memory := hm, blocks := hb }

/-- A state of the invariant whose word at PC runs: memory holds an ADDIU there. -/
theorem witness_StepKeepsInv : Inv (base.withFetchWord 32 0x25080001) ∧
    ∃ t, step (base.withFetchWord 32 0x25080001) = .next t := by
  have hp : fetchAddress base.pc base = .ok 0x400 := by decide +kernel
  refine ⟨?_, step_next_of (by decide +kernel)⟩
  rw [State.withFetchWord, hp]
  exact inv_bytes inv_base _ _

theorem witness_ImagesNeverChange :
    (let s := bytes 0x10000000 [1] (base.withFetchWord 32 0x25080001);
      s.mem.wf = true ∧ (0x10000000 : Nat) ≤ 0x1FC007BF ∧ Memory.lookup 0x10000000 s.mem = some 1 ∧
      ∃ t, step s = .next t) :=
  ⟨by decide +kernel, by decide, by decide +kernel, step_next_of (by decide +kernel)⟩

end Sys2Proof.Tests
end

section
/-! Proofs of the family 00_scope: the fetch from plain memory, the gap between two ticks with its moves and resets, and
the two statements about them (spec/00_scope.md R11, R12). -/

namespace Sys2Proof.Machine

/-! ### Fetch and decode of plain bytes -/

theorem ofNat_numberOf_four (b0 b1 b2 b3 : Byte) :
    BitVec.ofNat 32 (numberOf [b0, b1, b2, b3]) = b0 ++ b1 ++ b2 ++ b3 := by
  apply BitVec.eq_of_toNat_eq
  have h0 := b0.isLt
  have h1 := b1.isLt
  have h2 := b2.isLt
  have h3 := b3.isLt
  simp only [BitVec.toNat_append, BitVec.toNat_ofNat, numberOf, List.foldl_cons, List.foldl_nil]
  rw [← Nat.shiftLeft_add_eq_or_of_lt h1, ← Nat.shiftLeft_add_eq_or_of_lt h2, ← Nat.shiftLeft_add_eq_or_of_lt h3]
  simp only [Nat.shiftLeft_eq]
  omega

/-- Fetching from plain memory gives the big-endian word at PC and leaves the state alone (spec/20_memory.md R132). -/
theorem fetchWord_plain {s : State} {p : PAddr} (hp : fetchAddress s.pc s = .ok p) (hplain : PlainRead p 4 s) :
    fetchWord s = .ok (memByte p.toNat s ++ memByte (p.toNat + 1) s ++ memByte (p.toNat + 2) s
      ++ memByte (p.toNat + 3) s, s) := by
  simp only [fetchWord, hp, busRead_plain p 4 s (by decide) hplain, res_ok_bind, res_pure]
  rw [← ofNat_numberOf_four]
  rfl

theorem instructionStep_plain {s : State} {p : PAddr} {i : Instr} (hp : fetchAddress s.pc s = .ok p)
    (hplain : PlainRead p 4 s)
    (hi : decodeBytes (memByte p.toNat s) (memByte (p.toNat + 1) s) (memByte (p.toNat + 2) s) (memByte (p.toNat + 3) s)
      = .instr i) : instructionStep s = exec i s := by
  simp only [instructionStep, fetchWord_plain hp hplain]
  rw [← decodeBytes, hi, execDecoded]

/-! ### The gap between two ticks -/

theorem applyInputs_nil {s : State} (h : s.inputs = []) : applyInputs s = s := by simp only [applyInputs, h]

theorem applyInputs_single {s : State} {m : EnvMove} {rest : List (List EnvMove)} (h : s.inputs = [m] :: rest) :
    applyInputs s = applyMove m { s with inputs := rest } := by
  simp only [applyInputs, h, List.foldl_cons, List.foldl_nil]

theorem serviceResets_cold {s : State} (h : s.coldResetPin = true) :
    serviceResets s = coldResetEntry (releaseResets s) := by simp only [serviceResets, h, if_true]

theorem serviceResets_soft {s : State} (hc : s.coldResetPin = false) (h : s.softResetPin = true ∨ s.nmiPin = true) :
    serviceResets s = softResetEntry (releaseResets s) := by simp [serviceResets, hc, h]

theorem serviceResets_idle {s : State} (hc : s.coldResetPin = false) (hs : s.softResetPin = false)
    (hn : s.nmiPin = false) : serviceResets s = s := by simp [serviceResets, hc, hs, hn]

theorem beginTick_no_inputs {s : State} (h : s.inputs = []) : beginTick s = serviceResets s := by
  rw [beginTick, applyInputs_nil h]

theorem beginTick_idle {s : State} (h : s.inputs = []) (hc : s.coldResetPin = false) (hs : s.softResetPin = false)
    (hn : s.nmiPin = false) : beginTick s = s := by
  rw [beginTick_no_inputs h, serviceResets_idle hc hs hn]

/-- Settles O5: on plain memory the fetch is the big-endian word at PC and changes nothing, so the instruction step is
`exec` of the decoded instruction and `endTick` says the rest. -/
theorem stepRunsDecoded : Obligations.StepRunsDecoded := by
  unfold Obligations.StepRunsDecoded
  refine ⟨fun s u p i hu hp hplain hi => ?_, fun s h hc hs hn => beginTick_idle h hc hs hn⟩
  have hstep : step s = endTick (exec i u) := by rw [step, hu, instructionStep_plain hp hplain hi]
  rw [hstep]
  exact ⟨fun t ht => by rw [ht]; rfl, fun f hf => by rw [hf]; rfl, fun q hq => by rw [hq]; rfl⟩

end Sys2Proof.Machine
end

section
/-! Proofs of the family 00_scope: what a reset does, and what one move of the environment does. -/

namespace Sys2Proof.Machine

/-! ### Memory at a cold reset -/

theorem lookup_none_of_risingFrom {a k : Nat} {m : Memory} (h : risingFrom (some k) m = true) (ha : a ≤ k) :
    Memory.lookup a m = none := by
  cases m with
  | nil => rfl
  | cons c rest =>
    obtain ⟨j, d⟩ := c
    simp only [risingFrom, Bool.and_eq_true, decide_eq_true_eq] at h
    rw [Memory.lookup, if_neg (by omega), if_pos (by omega)]

/-- Dropping cells of other addresses from a canonical memory does not change what an address holds. -/
theorem lookup_filter {a : Nat} {p : Host.Cell → Bool} (hp : ∀ b, p (a, b) = true) (bound : Option Nat) (m : Memory)
    (h : risingFrom bound m = true) : Memory.lookup a (m.filter p) = Memory.lookup a m := by
  induction m generalizing bound with
  | nil => rfl
  | cons c rest ih =>
    obtain ⟨k, d⟩ := c
    have hrest : risingFrom (some k) rest = true := by cases bound <;> simp_all [risingFrom]
    have hih := ih (some k) hrest
    rw [List.filter_cons]
    split
    · simp only [Memory.lookup, hih]
    · next hdrop =>
      have hka : k ≠ a := fun e => hdrop (e ▸ hp d)
      rw [hih, Memory.lookup, if_neg hka]
      split
      · next hlt => exact lookup_none_of_risingFrom hrest (Nat.le_of_lt hlt)
      · rfl

theorem lookup_forget_outside {a first last : Nat} {m : Memory} (h : m.wf = true) (ha : a < first ∨ last < a) :
    Memory.lookup a (Memory.forget first last m) = Memory.lookup a m :=
  lookup_filter (fun b => by simpa using ha) none m h

/-- The images stay at a cold reset (spec/70_reset_and_hazards.md R625). -/
theorem lookup_coldMemory_image {a : Nat} {m : Memory} (h : m.wf = true) (h1 : 0x10000000 ≤ a) (h2 : a < 0x1FC007C0) :
    Memory.lookup a (coldMemory m) = Memory.lookup a m := by
  have hram := wf_forget 0 0x03EFFFFF m h
  have hsp := wf_forget 0x04000000 0x04001FFF _ hram
  rw [coldMemory, lookup_forget_outside hsp (by omega), lookup_forget_outside hram (by omega),
    lookup_forget_outside h (by omega)]

/-- An image byte reads the same in two states whose memories agree on it: its free value is not redrawn (log 7). -/
theorem memByte_image_congr {a : Nat} {s t : State} (h1 : 0x10000000 ≤ a) (h2 : a < 0x1FC007C0)
    (h : Memory.lookup a t.mem = Memory.lookup a s.mem) : memByte a t = memByte a s := by
  have himage : isImage a = true := by simp [isImage, h1, h2]
  simp only [memByte, h, himage, if_true]

/-! ### Resets -/

theorem coldCp0_status (n : Nat) (pins : BitVec 5) (c : Cp0) :
    (coldCp0 n pins c).status &&& 0x08700004#32 = 0x00400004#32 := by
  have hmask : ∀ f : Word32, (f &&& 0xF707FFFB#32 ||| 0x00400004#32) &&& 0x08700004#32 = 0x00400004#32 := by
    intro f
    rw [BitVec.and_or_distrib_right, BitVec.and_assoc]
    simp
  exact hmask _

theorem softReset_status (st : Word32) :
    st &&& ~~~0x00200000#32 ||| 0x00500004#32 = (st ||| 0x00500004#32) &&& 0xFFDFFFFF#32 := by
  rw [BitVec.and_or_distrib_right]
  rfl

/-- The registers a soft reset or an NMI writes (spec/70_reset_and_hazards.md R622). -/
theorem softResetEntry_cp0 (s : State) : (softResetEntry s).cp0 = { s.cp0 with
    errorEpc := if s.delay.isSome then s.pc - 4 else s.pc
    status := (s.cp0.status ||| 0x00500004#32) &&& 0xFFDFFFFF#32 } := by
  rw [← softReset_status]
  rfl

/-- Serving a reset does not look at the schedule: the moves that are left wait. -/
theorem serviceResets_withInputs (s : State) (moves : List (List EnvMove)) :
    serviceResets { s with inputs := moves } = { serviceResets s with inputs := moves } := by
  unfold serviceResets
  split
  · rfl
  · split <;> rfl

/-- A reset served before the moves that are left is the reset of a gap without moves. -/
theorem serviceResets_eq_beginTick (s : State) (rest : List (List EnvMove)) :
    serviceResets { s with inputs := rest } = { beginTick { s with inputs := [] } with inputs := rest } := by
  rw [beginTick_no_inputs rfl]
  exact serviceResets_withInputs { s with inputs := [] } rest

/-- A soft reset or an NMI served in a gap without moves (spec/70_reset_and_hazards.md R622). -/
theorem beginTick_softReset {s : State} (h : s.inputs = []) (hc : s.coldResetPin = false)
    (hp : s.softResetPin = true ∨ s.nmiPin = true) : beginTick s = softResetEntry (releaseResets s) := by
  rw [beginTick_no_inputs h, serviceResets_soft hc hp]

/-- A cold reset served in a gap without moves (spec/70_reset_and_hazards.md R620). -/
theorem beginTick_coldReset {s : State} (h : s.inputs = []) (hc : s.coldResetPin = true) :
    beginTick s = coldResetEntry (releaseResets s) := by
  rw [beginTick_no_inputs h, serviceResets_cold hc]

/-! ### Moves of the environment -/

/-- Only the three reset moves touch the reset inputs. -/
theorem applyMove_resetPins (m : EnvMove) (s : State) (hc : m ≠ .coldReset) (hs : m ≠ .softReset) (hn : m ≠ .nmi) :
    (applyMove m s).coldResetPin = s.coldResetPin ∧ (applyMove m s).softResetPin = s.softResetPin ∧
      (applyMove m s).nmiPin = s.nmiPin := by
  have hrun : ∀ t : State, t.coldResetPin = s.coldResetPin ∧ t.softResetPin = s.softResetPin ∧ t.nmiPin = s.nmiPin →
      (whenRunning s t).coldResetPin = s.coldResetPin ∧ (whenRunning s t).softResetPin = s.softResetPin ∧
        (whenRunning s t).nmiPin = s.nmiPin := by
    intro t ht
    unfold whenRunning
    split
    · exact ⟨rfl, rfl, rfl⟩
    · exact ht
  cases m with
  | coldReset => exact absurd rfl hc
  | softReset => exact absurd rfl hs
  | nmi => exact absurd rfl hn
  | pins level => exact ⟨rfl, rfl, rfl⟩
  | push slot buttons up down left right => exact ⟨rfl, rfl, rfl⟩
  | spByte p b => exact hrun _ (by split <;> exact ⟨rfl, rfl, rfl⟩)
  | spPc v => exact hrun _ ⟨rfl, rfl, rfl⟩
  | spFlags f => exact hrun _ ⟨rfl, rfl, rfl⟩
  | spSemaphore b => exact hrun _ ⟨rfl, rfl, rfl⟩
  | spDma k v => exact hrun _ ⟨rfl, rfl, rfl⟩

/-- A gap with one move that asserts no reset is that move. -/
theorem beginTick_single {s : State} {m : EnvMove} {rest : List (List EnvMove)} (h : s.inputs = [m] :: rest)
    (hcold : s.coldResetPin = false) (hsoft : s.softResetPin = false) (hnmi : s.nmiPin = false)
    (hc : m ≠ .coldReset) (hs : m ≠ .softReset) (hn : m ≠ .nmi) :
    beginTick s = applyMove m { s with inputs := rest } := by
  obtain ⟨h1, h2, h3⟩ := applyMove_resetPins m { s with inputs := rest } hc hs hn
  rw [beginTick, applyInputs_single h, serviceResets_idle (h1.trans hcold) (h2.trans hsoft) (h3.trans hnmi)]

/-- A move of the signal processor in its two cases: halted, nothing happens; running, the change happens. -/
theorem whenRunning_eq (s t : State) : whenRunning s t = if s.spStatus.halt then s else t := rfl

/-- The pins drive lines 2 to 6 of Cause.IP and leave the other three alone (spec/60_exceptions.md R470). -/
theorem ipWithPins_getLsbD (pins : BitVec 5) (ip : BitVec 8) {n : Nat} (h : n < 8) :
    (ipWithPins pins ip).getLsbD n = if 2 ≤ n ∧ n ≤ 6 then pins.getLsbD (n - 2) else ip.getLsbD n := by
  have hkeep : (131#8).getLsbD n = !decide (2 ≤ n ∧ n ≤ 6) := by interval_cases n <;> rfl
  change (ip &&& 131#8 ||| pins.setWidth 8 <<< 2).getLsbD n = _
  simp only [BitVec.getLsbD_or, BitVec.getLsbD_and, BitVec.getLsbD_shiftLeft, BitVec.getLsbD_setWidth, hkeep]
  by_cases hin : 2 ≤ n ∧ n ≤ 6
  · simp [hin, h, show 1 < n by omega, show n - 2 < 8 by omega]
  · have hpin : n < 2 ∨ pins.getLsbD (n - 2) = false :=
      (Nat.lt_or_ge n 2).imp_right fun h2 => BitVec.getLsbD_of_ge _ _ (by omega)
    rcases hpin with hz | hz <;> simp [hin, hz]

theorem axis_eq (plus minus : Bool) :
    axis plus minus = BitVec.ofInt 8 (50 * ((plus.toNat : Int) - minus.toNat)) := by
  cases plus <;> cases minus <;> rfl

/-- The number of slots of a register block (spec/61_platform_devices.md R530). -/
def blockSlots : Block → Nat
  | .vi => 14
  | .pi => 13
  | .si => 7
  | .sp => 8
  | .spPc => 2

theorem slotMask_of_le {blk : Block} {k : Nat} (h : blockSlots blk ≤ k) : slotMask blk k = 0 := by
  cases blk <;> exact List.getD_eq_default _ _ h

/-- Reading a vector after setting a slot; a set out of bounds is seen as writing the default. -/
theorem getD_setIfInBounds {n : Nat} (regs : Vector Word32 n) (k j : Nat) (x : Word32) (h : n ≤ k → x = 0) :
    (regs.setIfInBounds k x).toList.getD j 0 = if j = k then x else regs.toList.getD j 0 := by
  rw [Vector.toList_setIfInBounds]
  by_cases hj : j = k
  · subst hj
    by_cases hlt : j < n
    · simp [List.getD, hlt]
    · simp [List.getD, hlt, h (by omega)]
  · simp [List.getD, hj, List.getElem?_set_ne (Ne.symm hj)]

theorem writeSide_setWriteSide_otherBlock {b blk : Block} (h : b ≠ blk) (j k : Nat) (v : Word32) (s : State) :
    writeSide b j (setWriteSide blk k v s) = writeSide b j s := by
  cases b <;> cases blk <;> simp [writeSide, setWriteSide] at h ⊢

/-- Reading the write side of a slot after setting one: a slot outside its block has mask 0 and reads 0. -/
theorem writeSide_setWriteSide (b blk : Block) (j k : Nat) (v : Word32) (s : State) :
    writeSide b j (setWriteSide blk k v s) = if b = blk ∧ j = k then v &&& slotMask blk k else writeSide b j s := by
  by_cases hb : b = blk
  · subst hb
    have hout : blockSlots b ≤ k → v &&& slotMask b k = 0 := fun hk => by rw [slotMask_of_le hk]; exact BitVec.and_zero
    simp only [true_and]
    cases b <;> exact getD_setIfInBounds _ k j _ hout
  · rw [if_neg (fun h => hb h.1), writeSide_setWriteSide_otherBlock hb]

theorem resolve_rdram {p : PAddr} (h : p.toNat < 0x03F00000) : resolve p = some (.rdram, p.toNat) := by
  simp [resolve, deviceTable, claims, show p.toNat ≤ 0x03EFFFFF by omega]

theorem resolve_spDmem {p : PAddr} (h1 : 0x04000000 ≤ p.toNat) (h2 : p.toNat < 0x04001000) :
    resolve p = some (.spDmem, p.toNat - 0x04000000) := by
  simp [resolve, deviceTable, claims, h1, show ¬ p.toNat ≤ 0x03EFFFFF by omega, show ¬ p.toNat ≤ 0x03FFFFFF by omega,
    show p.toNat ≤ 0x04000FFF by omega]

theorem resolve_spImem {p : PAddr} (h1 : 0x04001000 ≤ p.toNat) (h2 : p.toNat < 0x04002000) :
    resolve p = some (.spImem, p.toNat - 0x04001000) := by
  simp [resolve, deviceTable, claims, h1, show ¬ p.toNat ≤ 0x03EFFFFF by omega, show ¬ p.toNat ≤ 0x03FFFFFF by omega,
    show ¬ p.toNat ≤ 0x04000FFF by omega, show p.toNat ≤ 0x04001FFF by omega]

/-- The bytes a running signal processor may change, as address ranges (spec/61_platform_devices.md R568). -/
theorem spMayWrite_iff (p : PAddr) (s : State) : spMayWrite p s = true ↔
    (0x04000000 ≤ p.toNat ∧ p.toNat < 0x04002000) ∨ (p.toNat < s.rdramSize ∧ p.toNat < 0x03F00000) := by
  constructor
  · intro h
    unfold spMayWrite at h
    split at h
    · next e => have := resolve_range e; dsimp only at this; omega
    · next e => have := resolve_range e; dsimp only at this; omega
    · next e =>
      obtain ⟨hle, hoff⟩ := resolve_range e
      rw [decide_eq_true_eq, hoff] at h
      omega
    · cases h
  · rintro (⟨h1, h2⟩ | ⟨hsize, h⟩)
    · by_cases hd : p.toNat < 0x04001000
      · simp only [spMayWrite, resolve_spDmem h1 hd]
      · simp only [spMayWrite, resolve_spImem (Nat.le_of_not_lt hd) h2]
    · simp only [spMayWrite, resolve_rdram h, hsize, decide_true]

/-- The masks of the four DMA registers of the signal processor (spec/61_platform_devices.md R561). -/
theorem slotMask_spDma (k : BitVec 2) : slotMask .sp k.toNat =
    if k = 0 then 0x00001FFF else if k = 1 then 0x00FFFFFF else 0xFFFFFFFF := by
  revert k
  decide

theorem pushInput_latch_same (slot : BitVec 2) (buttons : BitVec 16) (up down left right : Bool) (s : State) :
    (pushInput slot buttons up down left right s).latch[slot.toNat]'(slot.isLt) =
      { buttons := (s.latch[slot.toNat]'(slot.isLt)).buttons ||| buttons
        x := BitVec.ofInt 8 (50 * ((right.toNat : Int) - left.toNat))
        y := BitVec.ofInt 8 (50 * ((up.toNat : Int) - down.toNat)) } := by
  simp only [pushInput, Vector.getElem_set_self, axis_eq]

theorem pushInput_latch_other (slot : BitVec 2) (buttons : BitVec 16) (up down left right : Bool) (s : State) (n : Fin 4)
    (h : n.val ≠ slot.toNat) : (pushInput slot buttons up down left right s).latch[n] = s.latch[n] :=
  Vector.getElem_set_ne slot.isLt n.isLt (Ne.symm h)

/-- What changes when the signal processor's move sets one register slot: the slot, under its mask. -/
theorem setWriteSide_onlySlot (blk : Block) (k : Nat) (v : Word32) (s : State) :
    writeSide blk k (setWriteSide blk k v s) = v &&& slotMask blk k ∧
      ∀ b j, ¬ (b = blk ∧ j = k) → writeSide b j (setWriteSide blk k v s) = writeSide b j s :=
  ⟨by rw [writeSide_setWriteSide, if_pos ⟨rfl, rfl⟩], fun b j h => by rw [writeSide_setWriteSide, if_neg h]⟩

/-! ### The statement -/

/-- Settles O57: a gap without moves is its reset; a gap with one move is that move, or the reset it asks for. -/
theorem resetEvents : Obligations.ResetEvents := by
  unfold Obligations.ResetEvents
  refine ⟨?softReset, ?coldReset, ?move⟩
  case softReset =>
    intro s h hc hp
    rw [beginTick_softReset h hc hp]
    dsimp only
    refine ⟨softResetEntry_cp0 _, rfl, rfl, rfl, rfl, ?_⟩
    change ({ s with coldResetPin := false } : State) = s
    rw [← hc]
  case coldReset =>
    intro s h hc hwf
    rw [beginTick_coldReset h hc]
    refine ⟨rfl, rfl, rfl, rfl, rfl, coldCp0_status _ _ _, rfl, rfl, rfl, rfl, ?_, ?_⟩
    · exact fun n => Vector.getElem_replicate n.isLt
    · intro a h1 h2
      have hlookup := lookup_coldMemory_image hwf h1 h2
      exact ⟨hlookup, memByte_image_congr h1 h2 hlookup⟩
  case move =>
    intro s m rest h hcold hsoft hnmi
    have hmove := beginTick_single h hcold hsoft hnmi
    refine ⟨?pins, ?cold, ?soft, ?nmi, ?push, ?flags, ?semaphore, ?pc, ?dma, ?byte⟩
    case pins =>
      rintro level rfl
      rw [hmove nofun nofun nofun]
      exact ⟨rfl, fun n hn => ipWithPins_getLsbD level _ hn⟩
    case cold =>
      rintro rfl
      rw [beginTick, applyInputs_single h]
      exact serviceResets_eq_beginTick { s with coldResetPin := true } rest
    case soft =>
      rintro rfl
      rw [beginTick, applyInputs_single h]
      exact serviceResets_eq_beginTick { s with softResetPin := true } rest
    case nmi =>
      rintro rfl
      rw [beginTick, applyInputs_single h]
      exact serviceResets_eq_beginTick { s with nmiPin := true } rest
    case push =>
      rintro slot buttons up down left right rfl
      rw [hmove nofun nofun nofun]
      exact ⟨pushInput_latch_same slot buttons up down left right _, pushInput_latch_other slot buttons up down left right _, rfl⟩
    case flags =>
      rintro f rfl
      rw [hmove nofun nofun nofun]
      rfl
    case semaphore =>
      rintro b rfl
      rw [hmove nofun nofun nofun]
      rfl
    case pc =>
      rintro v rfl
      rw [hmove nofun nofun nofun, applyMove, whenRunning_eq]
      dsimp only
      split
      · rfl
      · obtain ⟨hslot, hothers⟩ := setWriteSide_onlySlot .spPc 0 v { s with inputs := rest }
        exact ⟨hslot, hothers, rfl⟩
    case dma =>
      rintro k v rfl
      rw [hmove nofun nofun nofun, applyMove, whenRunning_eq]
      dsimp only
      split
      · rfl
      · obtain ⟨hslot, hothers⟩ := setWriteSide_onlySlot .sp k.toNat v { s with inputs := rest }
        exact ⟨hslot.trans (congrArg (v &&& ·) (slotMask_spDma k)), hothers, rfl⟩
    case byte =>
      rintro p b rfl
      rw [hmove nofun nofun nofun, applyMove, whenRunning_eq]
      have hmay := spMayWrite_iff p { s with inputs := rest }
      refine ⟨fun hrun hown => ?_, fun hno => ?_⟩
      · rw [if_neg (by simp [hrun]), if_pos (hmay.mpr hown)]
        refine ⟨?_, fun a ha => ?_, rfl⟩
        · rw [memByte_setMemByte, if_pos rfl]
        · rw [memByte_setMemByte, if_neg ha]
          rfl
      · rcases hno with hhalt | hown
        · exact if_pos hhalt
        · rw [if_neg (mt hmay.mp hown), ite_self]

end Sys2Proof.Machine
end

section
/-! Proofs of the family 10_state: what the bus can change, as a chain of single device writes (spec/20_memory.md R140,
R152; spec/61_platform_devices.md R531 to R595). -/

namespace Sys2Proof.Machine

/-- One change that a bus access, a transfer or the running signal processor makes. No byte of an image is ever written
(spec/20_memory.md R152), and a register slot takes its value under its mask. -/
inductive DeviceWrite : State → State → Prop
  | draws (n : Nat) (s : State) : DeviceWrite s { s with draws := n }
  | semaphore (b : Bool) (s : State) : DeviceWrite s { s with semaphore := b }
  | spStatus (f : SpStatus) (s : State) : DeviceWrite s { s with spStatus := f }
  | latch (l : Vector Latch 4) (s : State) : DeviceWrite s { s with latch := l }
  | slot (blk : Block) (k : Nat) (v : Word32) (s : State) : DeviceWrite s (setWriteSide blk k v s)
  | byte (a : Nat) (b : Byte) (s : State) (h : isImage a = false) : DeviceWrite s (setMemByte a b s)

/-- A chain of device writes. -/
abbrev DeviceWrites : State → State → Prop := Relation.ReflTransGen DeviceWrite

theorem DeviceWrite.sameCpu {s t : State} (h : DeviceWrite s t) : SameCpu s t := by
  cases h with
  | slot blk k v s => exact setWriteSide_sameCpu blk k v s
  | _ => rfl

theorem not_isImage {a : Nat} (h : a < 0x10000000 ∨ 0x1FC007C0 ≤ a) : isImage a = false := by
  simp only [isImage, Bool.and_eq_false_iff, decide_eq_false_iff_not]
  omega

theorem busRead_deviceWrites {p : PAddr} {n : Nat} {s t : State} {bytes : List Byte}
    (h : busRead p n s = .ok (bytes, t)) : DeviceWrites s t := by
  obtain ⟨hframe, -, -⟩ := busRead_frame p n s t bytes h
  have ht : t = { s with draws := t.draws, semaphore := t.semaphore } := by rw [← hframe]
  rw [ht]
  exact .tail (.single (.draws t.draws s)) (.semaphore t.semaphore _)

theorem writeByte_deviceWrites {p : PAddr} {b : Byte} {s t : State} (h : writeByte p b s = .ok t) :
    DeviceWrites s t := by
  cases hr : resolve p with
  | none => simp [writeByte, hr, noDevice] at h
  | some found =>
    obtain ⟨slot, off⟩ := found
    have hrange := resolve_range hr
    simp only [writeByte, hr] at h
    cases slot
    case rdram =>
      dsimp only at h
      split at h
      · cases h; exact .single (.byte _ b s (not_isImage (.inl (by dsimp only at hrange; omega))))
      · cases h
    case spDmem | spImem =>
      cases h; exact .single (.byte _ b s (not_isImage (.inl (by dsimp only at hrange; omega))))
    case pifRam => cases h; exact .single (.byte _ b s (not_isImage (.inr hrange.1)))
    case viReg | piReg | siReg | spReg | spPcReg => cases h; exact .single (.slot _ _ _ s)
    all_goals cases h; exact .refl

theorem storeBytes_deviceWrites {bytes : List Byte} {p : PAddr} {s t : State} (h : storeBytes bytes p s = .ok t) :
    DeviceWrites s t := by
  induction bytes generalizing p s with
  | nil => cases h; exact .refl
  | cons b rest ih =>
    simp only [storeBytes, res_bind_ok] at h
    obtain ⟨u, hu, h⟩ := h
    exact (writeByte_deviceWrites hu).trans (ih h)

theorem setMemBytes_deviceWrites {a : Nat} (ha : 0x1FC007C0 ≤ a) (bytes : List Byte) (s : State) :
    DeviceWrites s (setMemBytes a bytes s) := by
  induction bytes generalizing a s with
  | nil => exact .refl
  | cons b rest ih => exact .head (.byte a b s (not_isImage (.inr ha))) (ih (Nat.le_succ_of_le ha) _)

theorem pifRamAddr_ge (i : Nat) : 0x1FC007C0 ≤ pifRamAddr i := Nat.le_add_right _ i

theorem joyBusDispatch_deviceWrites (ch : Nat) (cmd : Byte) (resp rl : Nat) (s : State) :
    DeviceWrites s (joyBusDispatch ch cmd resp rl s) := by
  unfold joyBusDispatch
  split
  · exact setMemBytes_deviceWrites (pifRamAddr_ge resp) _ s
  · split
    · split
      · exact .tail (setMemBytes_deviceWrites (pifRamAddr_ge resp) _ s) (.latch _ _)
      · exact .refl
    · exact .refl

theorem joyBusScan_deviceWrites (left p : Nat) (s : State) : DeviceWrites s (joyBusScan left p s) := by
  induction left generalizing p s with
  | zero => exact .refl
  | succ left ih =>
    unfold joyBusScan
    dsimp only
    split_ifs
    · exact .refl
    · exact .refl
    · exact ih _ s
    · exact ih _ s
    · exact .refl
    · exact .refl
    · exact .refl
    · exact (joyBusDispatch_deviceWrites _ _ _ _ s).trans (ih _ _)

theorem pifProcess_deviceWrites {s t : State} (h : pifProcess s = .ok t) : DeviceWrites s t := by
  unfold pifProcess at h
  dsimp only at h
  split_ifs at h <;> cases h
  · exact setMemBytes_deviceWrites (pifRamAddr_ge 0) _ s
  · exact joyBusScan_deviceWrites 5 0 s
  · exact .refl

theorem copyBytes_deviceWrites {left copied : Nat} {src dst : PAddr} {s t : State}
    (h : copyBytes left copied src dst s = .ok t) : DeviceWrites s t := by
  induction left generalizing copied src dst s with
  | zero => cases h; exact .refl
  | succ left ih =>
    simp only [copyBytes, res_bind_ok, Prod.exists] at h
    obtain ⟨bytes, u, hu, v, hv, h⟩ := h
    have hread := busRead_deviceWrites (withCopied_ok _ _ _ _ hu)
    have hstore := storeBytes_deviceWrites (withCopied_ok _ _ _ _ hv)
    exact (hread.trans hstore).trans (ih h)

theorem scrambleStaged_deviceWrites (blk : Block) (slots : List Nat) (s : State) :
    DeviceWrites s (scrambleStaged blk slots s) := by
  unfold scrambleStaged
  induction slots generalizing s with
  | nil => exact .refl
  | cons k rest ih => exact .head (.slot blk k _ s) (.head (.draws _ _) (ih _))

theorem foldlM_deviceWrites {α : Type} {f : State → α → Res State}
    (hf : ∀ s a t, f s a = .ok t → DeviceWrites s t) {l : List α} {s t : State} (h : l.foldlM f s = .ok t) :
    DeviceWrites s t := by
  induction l generalizing s with
  | nil => cases h; exact .refl
  | cons a rest ih =>
    simp only [List.foldlM_cons, res_bind_ok] at h
    obtain ⟨u, hu, h⟩ := h
    exact (hf s a u hu).trans (ih h)

theorem fireEffect_deviceWrites {fuel : Nat} {e : Effect} {s t : State} (h : fireEffect fuel e s = .ok t) :
    DeviceWrites s t := by
  induction fuel generalizing e s t with
  | zero => cases h
  | succ fuel ih =>
    unfold fireEffect at h
    cases e <;> simp only [res_bind_ok, res_pure, Except.ok.injEq] at h
    case spStatus => subst h; exact .single (.spStatus _ s)
    case spSemaphore => subst h; exact .single (.semaphore false s)
    case pifCommand => exact pifProcess_deviceWrites h
    all_goals
      obtain ⟨tr, -, u, hu, v, hv, rfl⟩ := h
      exact ((copyBytes_deviceWrites hu).trans (foldlM_deviceWrites (fun _ _ _ => ih) hv)).trans
        (scrambleStaged_deviceWrites _ _ v)

/-- All that a bus write can change. -/
theorem busWrite_deviceWrites {p : PAddr} {bytes : List Byte} {s t : State} (h : busWrite p bytes s = .ok t) :
    DeviceWrites s t := by
  simp only [busWrite, res_bind_ok, fireEffects] at h
  obtain ⟨u, hu, h⟩ := h
  exact (storeBytes_deviceWrites hu).trans (foldlM_deviceWrites (fun _ _ _ => fireEffect_deviceWrites) h)

end Sys2Proof.Machine
end

section
/-! Proofs of the family 10_state: what an instruction can do, said once for all of them. An instruction that answers a
next state either made a chain of single writes, each of a kind that it may make, or entered an exception
(`exec_ends`; spec/10_state.md R26). -/

namespace Sys2Proof.Machine

/-- The instructions that write HI and LO (spec/10_state.md R34). -/
def WritesHiLo (i : Instr) : Prop := ∃ a b, i ∈ ([.mult a b, .multu a b, .dmult a b, .dmultu a b, .div a b, .divu a b,
  .ddiv a b, .ddivu a b, .mthi a, .mtlo a] : List Instr)

/-- The load-linked pair (spec/10_state.md R38). -/
def LoadsLinked (i : Instr) : Prop := ∃ b r o, i = .ll b r o ∨ i = .lld b r o

/-- The instructions that write coprocessor 0 register n (spec/45_cop0.md R367, R369). -/
def WritesCop0 (n : Reg) (i : Instr) : Prop := ∃ rt, i = .mtc0 rt n ∨ (isWideCop0 n = true ∧ i = .dmtc0 rt n)

/-- FCR31 may become f: reserved bits that were zero stay zero (spec/10_state.md R36). -/
def FcrAllowed (f : Word32) (s : State) : Prop := s.fcr31 &&& ~~~fcr31Mask = 0 → f &&& ~~~fcr31Mask = 0

/-- One write that instruction i makes when it raises no exception. -/
inductive InstrWrite (i : Instr) : State → State → Prop
  | device {s t : State} (h : DeviceWrite s t) : InstrWrite i s t
  | control (pc : Word) (delay : Option Word) (s : State) : InstrWrite i s { s with pc := pc, delay := delay }
  | gpr (r : Reg) (v : Word) (s : State) : InstrWrite i s (writeGpr s r v)
  | hiLo (h : WritesHiLo i) (hi lo : Word) (s : State) : InstrWrite i s (writeHiLo s hi lo)
  | cells (bits : Vector Word 32) (low high : Vector Bool 32) (s : State) :
      InstrWrite i s { s with fgr := bits, fgrLowFr := low, fgrHighFr := high }
  | fcr31 (f : Word32) (s : State) (h : FcrAllowed f s) : InstrWrite i s { s with fcr31 := f }
  | linked (h : LoadsLinked i) (p : PAddr) (s : State) : InstrWrite i s (setLinked p s)
  | random (s : State) : InstrWrite i s { s with cp0 := { s.cp0 with random := drawRandom s } }
  | cop0 {n : Reg} (hi : WritesCop0 n i) {v : Word} {s t : State} (h : cop0Write n v s = .ok t) : InstrWrite i s t
  | tlbRead (h : i = .tlbr) (e : TlbEntry) (s : State) : InstrWrite i s { s with cp0 := regsFromEntry e s.cp0 }
  | tlbEntry (h : i = .tlbwi ∨ i = .tlbwr) (k : Nat) (e : TlbEntry) (s : State) :
      InstrWrite i s { s with tlb := s.tlb.setIfInBounds k e }
  | index (h : i = .tlbp) (r : IndexReg) (s : State) : InstrWrite i s { s with cp0 := { s.cp0 with index := r } }
  | eret (h : i = .eret) (s : State) : InstrWrite i s (returnFromException s)

/-- A chain of writes of instruction i. -/
abbrev InstrWrites (i : Instr) : State → State → Prop := Relation.ReflTransGen (InstrWrite i)

/-- How instruction i gets from s to t: by its own writes, or by the entry of an exception before which nothing but
FCR31 changed. -/
inductive InstrEnds (i : Instr) (s t : State) : Prop
  | completes (h : InstrWrites i s t)
  | raises (e : Exc) (f : Word32) (hf : FcrAllowed f s) (ht : t = takeException e { s with fcr31 := f })

/-- An effect that answers a state answers one of which P holds. -/
def Gives (P : State → Prop) (r : Res State) : Prop := ∀ u, r = .ok u → P u

/-- A result that is a next state is one the instruction can reach. -/
def Ends (i : Instr) (s : State) (r : Result) : Prop := ∀ t, r = .next t → InstrEnds i s t

section
variable {i : Instr} {s t u : State} {P Q : State → Prop}

/-! ### Effects in sequence -/

theorem Gives.ok (h : P u) : Gives P (.ok u) := by
  rintro _ ⟨⟩
  exact h

theorem Gives.stop (e : Stop) : Gives P (.error e) := by
  rintro _ ⟨⟩

theorem Gives.bind {α : Type} {x : Res α} {f : α → Res State} (h : ∀ a, x = .ok a → Gives P (f a)) :
    Gives P (x >>= f) := by
  intro u hu
  obtain ⟨a, hx, hf⟩ := (res_bind_ok x f u).mp hu
  exact h a hx u hf

/-- A test before an effect can only keep it from happening. -/
theorem Gives.after {α : Type} {x : Res α} {r : Res State} (h : Gives P r) : Gives P (x >>= fun _ => r) :=
  .bind fun _ _ => h

theorem Gives.ite {c : Prop} [Decidable c] {r r' : Res State} (h : Gives P r) (h' : Gives P r') :
    Gives P (if c then r else r') := by
  split
  · exact h
  · exact h'

theorem Gives.mono {r : Res State} (h : Gives P r) (hPQ : ∀ u, P u → Q u) : Gives Q r := fun u hu => hPQ u (h u hu)

/-! ### Ending an instruction -/

theorem ends_exception (e : Exc) : InstrEnds i s (takeException e s) := .raises e s.fcr31 id rfl

theorem ends_finish {r : Res State} (h : Gives (InstrEnds i s) r) : Ends i s (finish s r) := by
  intro t ht
  rcases (finish_next s t r).mp ht with hr | ⟨e, -, rfl⟩
  · exact h t hr
  · exact ends_exception e

theorem ends_branch {r : Res State} (h : Gives (InstrWrites i s) r) : Ends i s (finish s r) :=
  ends_finish (h.mono fun _ => .completes)

theorem InstrWrites.retire (h : InstrWrites i s t) : InstrWrites i s (retire t) := by
  unfold Sys2Proof.Machine.retire
  split <;> exact h.tail (.control _ _ t)

theorem ends_complete {r : Res State} (h : Gives (InstrWrites i s) r) : Ends i s (complete s r) :=
  ends_branch (.bind fun u hu => .ok (h u hu).retire)

/-! ### Registers -/

theorem InstrWrites.devices (h : DeviceWrites s t) : InstrWrites i s t :=
  Relation.ReflTransGen.mono (fun _ _ => .device) s t h

theorem InstrWrites.gpr (h : InstrWrites i s t) (r : Reg) (v : Word) : InstrWrites i s (writeGpr t r v) :=
  h.tail (.gpr r v t)

theorem gives_gpr {r : Reg} {v : Word} : Gives (InstrWrites i s) (.ok (writeGpr s r v)) :=
  .ok (.single (.gpr r v s))

theorem gives_hiLo (h : WritesHiLo i) {hi lo : Word} : Gives (InstrWrites i s) (.ok (writeHiLo s hi lo)) :=
  .ok (.single (.hiLo h hi lo s))

theorem writeF32_writes (s : State) (r : Reg) (v : Word32) : InstrWrites i s (writeF32 s r v) := by
  unfold writeF32
  split
  · exact .head (.cells _ _ _ s) (.single (.device (.draws _ _)))
  · split
    · exact .single (.cells _ s.fgrLowFr _ s)
    · exact .single (.cells _ _ s.fgrHighFr s)

theorem writeCell_writes (s : State) (r : Reg) (v : Word) : InstrWrites i s (writeCell s r v) :=
  .single (.cells _ _ _ s)

/-! ### Branches -/

theorem gives_branchTo (h : InstrWrites i s t) {target : Word} : Gives (InstrWrites i s) (branchTo target t) := by
  unfold branchTo
  split
  · exact .stop _
  · exact .ok (h.tail (.control _ _ t))

theorem gives_skipSlot (h : InstrWrites i s t) : Gives (InstrWrites i s) (skipSlot t) := by
  unfold skipSlot
  split
  · exact .stop _
  · exact .ok (h.tail (.control _ t.delay t))

theorem gives_branchIf (h : InstrWrites i s t) {c : Bool} {offset : BitVec 16} :
    Gives (InstrWrites i s) (branchIf c offset t) := gives_branchTo h

theorem gives_branchLikelyIf (h : InstrWrites i s t) {c : Bool} {offset : BitVec 16} :
    Gives (InstrWrites i s) (branchLikelyIf c offset t) := .ite (gives_branchTo h) (gives_skipSlot h)

/-! ### Loads and stores -/

theorem loadBytes_writes {align back n : Nat} {va m : Word} (h : loadBytes align back n va s = .ok (m, t)) :
    InstrWrites i s t := by
  simp only [loadBytes, res_bind_ok, Prod.exists, res_pure, Except.ok.injEq, Prod.mk.injEq] at h
  obtain ⟨p, -, bytes, u, hread, -, rfl⟩ := h
  exact .devices (busRead_deviceWrites hread)

theorem gives_load {align back n : Nat} {va : Word} {f : Word × State → Res State}
    (h : ∀ m t, InstrWrites i s t → Gives (InstrWrites i s) (f (m, t))) :
    Gives (InstrWrites i s) (loadBytes align back n va s >>= f) :=
  .bind fun ⟨m, t⟩ hload => h m t (loadBytes_writes hload)

theorem gives_loadAligned {n : Nat} {extend : Word → Word} {base rt : Reg} {offset : BitVec 16} :
    Gives (InstrWrites i s) (loadAligned n extend base rt offset s) := gives_load fun _ _ h => .ok (h.gpr _ _)

theorem gives_loadPartial {back n : Nat} {merge : Word → Word → Word} {va : Word} {rt : Reg} :
    Gives (InstrWrites i s) (loadPartial back n merge va rt s) := gives_load fun _ _ h => .ok (h.gpr _ _)

theorem gives_loadLinked (hi : LoadsLinked i) {n : Nat} {extend : Word → Word} {base rt : Reg} {offset : BitVec 16} :
    Gives (InstrWrites i s) (loadLinked n extend base rt offset s) :=
  .bind fun p _ => .bind fun t ht => .ok ((gives_loadAligned t ht).tail (.linked hi p t))

theorem gives_storeValue {align back n : Nat} {va v : Word} :
    Gives (InstrWrites i s) (storeValue align back n va v s) :=
  .bind fun _ _ _ hu => .devices (busWrite_deviceWrites hu)

theorem gives_storeConditional {n : Nat} {base rt : Reg} {offset : BitVec 16} :
    Gives (InstrWrites i s) (storeConditional n base rt offset s) :=
  .bind fun _ _ => .ite (.bind fun _ ht => .ok ((InstrWrites.devices (busWrite_deviceWrites ht)).gpr rt 1)) gives_gpr

/-! ### Coprocessor 0 -/

theorem readRandom_writes (s : State) : InstrWrites i s (readRandom s).2 :=
  .head (.random s) (.single (.device (.draws _ _)))

theorem cop0Read_writes (n : Reg) (s : State) : InstrWrites i s (cop0Read n s).2 := by
  unfold cop0Read
  split
  case h_2 => exact readRandom_writes s
  case h_26 => exact .single (.device (.draws _ s))
  all_goals exact .refl

theorem dmfc0Read_writes (n : Reg) (s : State) : InstrWrites i s (dmfc0Read n s).2 := by
  unfold dmfc0Read
  split
  · exact cop0Read_writes n s
  · exact .single (.device (.draws _ s))

theorem gives_cop0Write {n : Reg} (hi : WritesCop0 n i) {v : Word} : Gives (InstrWrites i s) (cop0Write n v s) :=
  fun _ hu => .single (.cop0 hi hu)

theorem gives_dmtc0Write {rt n : Reg} {v : Word} :
    Gives (InstrWrites (.dmtc0 rt n) s) (dmtc0Write n v s) := by
  unfold dmtc0Write
  split
  · next hwide => exact gives_cop0Write ⟨rt, .inr ⟨hwide, rfl⟩⟩
  · exact .ite (.ok .refl) (.stop _)

theorem execTlbp_ends (s : State) : Ends .tlbp s (execTlbp s) := by
  unfold execTlbp
  refine ends_complete (.after ?_)
  split
  · exact .ok (.head (.index rfl _ s) (.single (.device (.draws _ _))))
  · exact .ok (.single (.index rfl _ s))
  · exact .stop _

/-! ### Floating point -/

theorem reserved_or {a b mask : Word32} (ha : a &&& ~~~mask = 0) (hb : b &&& ~~~mask = 0) :
    (a ||| b) &&& ~~~mask = 0 := by
  rw [BitVec.and_or_distrib_right, ha, hb]
  rfl

theorem reserved_and {a mask : Word32} (ha : a &&& ~~~mask = 0) (b : Word32) : (a &&& b) &&& ~~~mask = 0 := by
  rw [BitVec.and_assoc, BitVec.and_comm b, ← BitVec.and_assoc, ha]
  exact BitVec.zero_and

theorem reserved_masked (v mask : Word32) : (v &&& mask) &&& ~~~mask = 0 := by
  rw [BitVec.and_assoc, BitVec.and_not_self]
  exact BitVec.and_zero

theorem fcrSetCause_allowed (cause : BitVec 6) (s : State) : FcrAllowed (fcrSetCause s.fcr31 cause) s := fun h =>
  reserved_or (reserved_and h _) (by revert cause; decide)

theorem fcrAddFlags_reserved {f : Word32} (h : f &&& ~~~fcr31Mask = 0) (cause : BitVec 6) :
    fcrAddFlags f cause &&& ~~~fcr31Mask = 0 := reserved_or h (by revert cause; decide)

theorem fcrSetCond_allowed (c : Bool) (s : State) : FcrAllowed (fcrSetCond s.fcr31 c) s := fun h =>
  reserved_or (reserved_and h _) (by revert c; decide)

theorem writeFp_writes (fmt : OpFmt) (r : Reg) (v : Word) (s : State) : InstrWrites i s (writeFp fmt r v s) := by
  cases fmt
  case s | w => exact writeF32_writes s r _
  case d | l => exact writeCell_writes s r v

theorem writeCond_writes (v : Word) (s : State) : InstrWrites i s (writeCond v s) :=
  .single (.fcr31 _ s (fcrSetCond_allowed _ s))

/-- FpFinish: the exception with the new Cause, or the flags and the write (spec/46_fpu.md R394). -/
theorem fpFinish_ends (r : FpResult) {write : Word → State → State} (hw : ∀ v u, InstrWrites i u (write v u)) :
    InstrEnds i s (fpFinish r write s) := by
  have hcause := fcrSetCause_allowed r.cause s
  unfold fpFinish
  dsimp only
  split
  · exact .raises .floatingPoint _ hcause rfl
  · exact .completes (.retire (.head (.fcr31 _ s fun h => fcrAddFlags_reserved (hcause h) r.cause) (hw r.value _)))

theorem ends_fpMove {fmt : OpFmt} {fs fd : Reg} : Ends i s (fpMove fmt fs fd s) :=
  ends_complete (.after (.after (.ok (.head (.fcr31 _ s (fcrSetCause_allowed _ s))
    (.head (.device (.draws _ _)) (writeFp_writes fmt fd _ _))))))

theorem readControl_writes (fs : Reg) (s : State) : InstrWrites i s (readControl fs s).2 := by
  unfold readControl
  split
  · exact .refl
  · split
    · exact .refl
    · exact .single (.device (.draws _ s))

/-- A write of FCR31 by CTC1 that raises Floating-Point stays (spec/46_fpu.md R404). -/
theorem writeControl_ends (fs : Reg) (v : Word32) (s : State) : InstrEnds i s (writeControl fs v s) := by
  have hmask : FcrAllowed (v &&& fcr31Mask) s := fun _ => reserved_masked v fcr31Mask
  unfold writeControl
  dsimp only
  split
  · split
    · exact .raises .floatingPoint _ hmask rfl
    · exact .completes (.retire (.single (.fcr31 _ s hmask)))
  · exact .completes (.retire .refl)

end

/-! ### All instructions -/

/-- What each instruction can do: one line for each shape of meaning, with the number of tests that come first. -/
theorem exec_ends (i : Instr) (s : State) : Ends i s (exec i s) := by
  cases i
  -- one general register
  case slti | sltiu | andi | ori | xori | lui | and | or | xor | nor | slt | sltu | sll | sllv | mfhi | mflo =>
    exact ends_complete gives_gpr
  case addiu | daddiu | srl | sra | srlv | srav | daddu | dsubu | dsll | dsrl | dsra | dsllv | dsrlv | dsrav | dsll32
      | dsrl32 | dsra32 | mfc1 => exact ends_complete (.after gives_gpr)
  case addi | daddi | addu | subu | dadd | dsub | dmfc1 => exact ends_complete (.after (.after gives_gpr))
  case add | sub => exact ends_complete (.after (.after (.after gives_gpr)))
  -- HI and LO
  case mult a b | multu a b | dmult a b | dmultu a b => exact ends_complete (.after (gives_hiLo ⟨a, b, by simp⟩))
  case div a b | ddiv a b =>
    refine ends_complete (.after (.ite ?_ (.ite ?_ ?_))) <;> exact gives_hiLo ⟨a, b, by simp⟩
  case divu a b | ddivu a b => refine ends_complete (.after (.ite ?_ ?_)) <;> exact gives_hiLo ⟨a, b, by simp⟩
  case mthi a | mtlo a => exact ends_complete (gives_hiLo ⟨a, 0, by simp⟩)
  -- jumps and branches
  case j | jr => exact ends_branch (gives_branchTo .refl)
  case jal => exact ends_branch (gives_branchTo (.single (.gpr 31 _ s)))
  case jalr rs rd => exact ends_branch (.after (gives_branchTo (.single (.gpr rd _ s))))
  case beq | bne | blez | bgtz | bltz | bgez => exact ends_branch (gives_branchIf .refl)
  case beql | bnel | blezl | bgtzl | bltzl | bgezl => exact ends_branch (gives_branchLikelyIf .refl)
  case bltzal | bgezal => exact ends_branch (.after (gives_branchIf (.single (.gpr 31 _ s))))
  case bltzall | bgezall => exact ends_branch (.after (gives_branchLikelyIf (.single (.gpr 31 _ s))))
  case bc1f | bc1t => exact ends_branch (.after (gives_branchIf .refl))
  case bc1fl | bc1tl => exact ends_branch (.after (gives_branchLikelyIf .refl))
  -- loads and stores
  case lb | lbu | lh | lhu | lw => exact ends_complete gives_loadAligned
  case lwu | ld => exact ends_complete (.after gives_loadAligned)
  case lwl | lwr => exact ends_complete gives_loadPartial
  case ldl | ldr => exact ends_complete (.after gives_loadPartial)
  case ll b r o => exact ends_complete (gives_loadLinked ⟨b, r, o, .inl rfl⟩)
  case lld b r o => exact ends_complete (.after (gives_loadLinked ⟨b, r, o, .inr rfl⟩))
  case sb | sh | sw | swl | swr => exact ends_complete gives_storeValue
  case sd | sdl | sdr | swc1 => exact ends_complete (.after gives_storeValue)
  case sdc1 => exact ends_complete (.after (.after gives_storeValue))
  case sc => exact ends_complete gives_storeConditional
  case scd => exact ends_complete (.after gives_storeConditional)
  case lwc1 => exact ends_complete (.after (gives_load fun _ _ h => .ok (h.trans (writeF32_writes _ _ _))))
  case ldc1 => exact ends_complete (.after (.after (gives_load fun _ _ h => .ok (h.trans (writeCell_writes _ _ _)))))
  -- traps and system instructions
  case tge | tgeu | tlt | tltu | teq | tne | tgei | tgeiu | tlti | tltiu | teqi | tnei =>
    exact ends_complete (.after (.ok .refl))
  case syscall | brk => exact ends_branch (r := raise _) (.stop _)
  case sync => exact ends_complete (.ok .refl)
  case cache => exact ends_complete (.after (.after (.ok .refl)))
  -- coprocessor 0
  case mfc0 rt rd => exact ends_complete (.after (.ok ((cop0Read_writes rd s).gpr rt _)))
  case dmfc0 rt rd => exact ends_complete (.after (.after (.ok ((dmfc0Read_writes rd s).gpr rt _))))
  case mtc0 rt rd => exact ends_complete (.after (gives_cop0Write ⟨rt, .inl rfl⟩))
  case dmtc0 => exact ends_complete (.after (.after gives_dmtc0Write))
  case tlbr => exact ends_complete (.after (.bind fun e _ => .ok (.single (.tlbRead rfl e s))))
  case tlbwi => exact ends_complete (.after (.after (.ok (.single (.tlbEntry (.inl rfl) _ _ s)))))
  case tlbwr => exact ends_complete (.after (.after (.ok ((readRandom_writes s).tail (.tlbEntry (.inr rfl) _ _ _)))))
  case tlbp => exact execTlbp_ends s
  case eret => exact ends_branch (.after (.after (.ok (.single (.eret rfl s)))))
  -- floating point
  case cfc1 rt fs => exact ends_complete (.after (.ok ((readControl_writes fs s).gpr rt _)))
  case ctc1 rt fs => exact ends_finish (.after (.ok (writeControl_ends fs _ s)))
  case mtc1 => exact ends_complete (.after (.ok (writeF32_writes s _ _)))
  case dmtc1 => exact ends_complete (.after (.after (.ok (writeCell_writes s _ _))))
  case movS | movD => exact ends_fpMove
  case addS | addD | subS | subD | mulS | mulD | divS | divD =>
    exact ends_finish (.after (.after (.after (.after (.ok (fpFinish_ends _ (writeFp_writes _ _)))))))
  case sqrtS | sqrtD | absS | absD | negS | negD | roundLS | roundLD | truncLS | truncLD | ceilLS | ceilLD | floorLS
      | floorLD | roundWS | roundWD | truncWS | truncWD | ceilWS | ceilWD | floorWS | floorWD | cvtSD | cvtSW | cvtSL
      | cvtDS | cvtDW | cvtDL | cvtWS | cvtWD | cvtLS | cvtLD =>
    exact ends_finish (.after (.after (.after (.ok (fpFinish_ends _ (writeFp_writes _ _))))))
  -- the 32 compares
  all_goals exact ends_finish (.after (.after (.after (.ok (fpFinish_ends _ writeCond_writes)))))

end Sys2Proof.Machine
end

section
/-! Proofs of the family 10_state: the invariant. Each single write of a device, of an instruction and of the
environment keeps it, so a whole step does. In `{ hs with … }` the clauses named are those that the write touches. -/

namespace Sys2Proof.Machine

/-! ### Devices -/

theorem blocksMasked_setWriteSide {s : State} (h : BlocksMasked s) (blk : Block) (k : Nat) (v : Word32) :
    BlocksMasked (setWriteSide blk k v s) := by
  intro b j
  rw [writeSide_setWriteSide]
  split
  · next hb =>
    obtain ⟨rfl, rfl⟩ := hb
    exact reserved_masked v (slotMask b j)
  · exact h b j

theorem DeviceWrite.inv {s t : State} (h : DeviceWrite s t) (hs : Inv s) : Inv t := by
  cases h with
  | draws | semaphore | spStatus | latch => exact { hs with }
  | byte a b s => exact { hs with memory := wf_write a b s.mem hs.memory }
  | slot blk k v s =>
    have hb := blocksMasked_setWriteSide hs.blocks blk k v
    cases blk <;> exact { hs with blocks := hb }

theorem DeviceWrites.inv {s t : State} (h : DeviceWrites s t) (hs : Inv s) : Inv t := by
  induction h with
  | refl => exact hs
  | tail _ hstep ih => exact hstep.inv ih

/-! ### Exceptions -/

/-- The entry of an exception sets Status.EXL and keeps every other register that the invariant speaks of. -/
theorem takeException_inv (e : Exc) {s : State} (hs : Inv s) : Inv (takeException e s) := by
  obtain ⟨-, hexl, -, -, -, -, hlines, -, -, hcp0, hrest⟩ := enters_takeException e s
  generalize takeException e s = t at hexl hlines hcp0 hrest
  have ht : t = { s with cp0 := t.cp0, pc := t.pc, delay := t.delay, draws := t.draws } := by rw [← hrest]
  have hc : t.cp0 = { s.cp0 with
      cause := t.cp0.cause, status := t.cp0.status, epc := t.cp0.epc, badVAddr := t.cp0.badVAddr
      context := t.cp0.context, xcontext := t.cp0.xcontext, entryHi := t.cp0.entryHi } := by rw [← hcp0]
  rw [ht, hc]
  refine { hs with status := ?_, pins := ?_ }
  · change t.cp0.status &&& ~~~statusMask = 0
    rw [hexl]
    exact reserved_or hs.status rfl
  · change t.cp0.cause.ip.extractLsb' 2 5 = s.intPins
    rw [hlines]
    exact hs.pins

theorem returnFromException_inv {s : State} (hs : Inv s) : Inv (returnFromException s) := by
  unfold returnFromException
  split <;> exact { hs with status := reserved_and hs.status _ }

/-! ### Coprocessor 0 -/

theorem drawRandom_range (s : State) (h : s.cp0.wired.toNat ≤ 31) :
    s.cp0.wired.toNat ≤ (drawRandom s).toNat ∧ (drawRandom s).toNat ≤ 31 := by
  have hmod : (drawn s).toNat % (32 - s.cp0.wired.toNat) < 32 - s.cp0.wired.toNat := Nat.mod_lt _ (by omega)
  simp only [drawRandom, h, if_true, BitVec.toNat_ofNat]
  omega

/-- Lines 2 to 6 of Cause.IP, those of the pins (spec/60_exceptions.md R470). -/
def pinLines (ip : BitVec 8) : BitVec 5 := ip.extractLsb' 2 5

theorem pinLines_and {ip mask : BitVec 8} (h : pinLines mask = BitVec.allOnes 5) :
    pinLines (ip &&& mask) = pinLines ip := by
  rw [pinLines, BitVec.extractLsb'_and, ← pinLines, ← pinLines, h, BitVec.and_allOnes]

theorem pinLines_or {ip lines : BitVec 8} (h : pinLines lines = 0#5) : pinLines (ip ||| lines) = pinLines ip := by
  rw [pinLines, BitVec.extractLsb'_or, ← pinLines, ← pinLines, h, BitVec.or_zero]

/-- A write of Config under its mask with BE = 1 keeps the constant fields (spec/10_state.md R55). -/
theorem config_constant {c v new : Word32} (hc : c &&& 0x80FFFFF0#32 = 0x0006E460#32)
    (hnew : new = (c &&& ~~~configMask) ||| (v &&& configMask)) (hbe : new.getLsbD 15 = true) :
    new &&& 0x80FFFFF0#32 = 0x0006E460#32 := by
  have hfields : new &&& 0x80FF7FF0#32 = 0x00066460#32 := by
    have hc' : c &&& 0x80FF7FF0#32 = 0x00066460#32 := by
      rw [show 0x80FF7FF0#32 = 0x80FFFFF0#32 &&& 0x80FF7FF0#32 from rfl, ← BitVec.and_assoc, hc]
      rfl
    rw [hnew, BitVec.and_or_distrib_right, BitVec.and_assoc, BitVec.and_assoc]
    change c &&& 0x80FF7FF0#32 ||| v &&& 0#32 = _
    rw [hc', BitVec.and_zero, BitVec.or_zero]
  have hbit : new &&& 0x00008000#32 = 0x00008000#32 := by
    rw [show 0x00008000#32 = BitVec.twoPow 32 15 from rfl, BitVec.and_twoPow, if_pos hbe]
  rw [show 0x80FFFFF0#32 = 0x80FF7FF0#32 ||| 0x00008000#32 from rfl, BitVec.and_or_distrib_left, hfields, hbit]
  rfl

theorem writeConfig_inv {v : Word32} {s t : State} (h : writeConfig v s = .ok t) (hs : Inv s) : Inv t := by
  simp only [writeConfig, res_bind_ok, res_pure, Except.ok.injEq] at h
  obtain ⟨⟨⟩, hbe, rfl⟩ := h
  exact { hs with config := config_constant hs.config rfl ((require_ok _ _).mp hbe) }

theorem watchLo_masked (v : Word32) : (v &&& 0xFFFFFFFB#32).getLsbD 2 = false := by
  rw [BitVec.getLsbD_and]
  exact Bool.and_false _

theorem writeCompare_inv (v : Word32) {s : State} (hs : Inv s) : Inv (writeCompare Config.timerOnIp7 v s) :=
  { hs with pins := (pinLines_and rfl).trans hs.pins }

theorem cop0Write_inv {n : Reg} {v : Word} {s t : State} (h : cop0Write n v s = .ok t) (hs : Inv s) : Inv t := by
  unfold cop0Write at h
  dsimp only at h
  split at h
  -- Wired and Random
  case h_6 => cases h; exact { hs with random := fun hw => ⟨hw, Nat.le_refl 31⟩ }
  -- Compare
  case h_9 => cases h; exact writeCompare_inv _ hs
  -- Status
  case h_10 => cases h; exact { hs with status := reserved_masked _ _ }
  -- Cause
  case h_11 =>
    cases h
    have hbits : pinLines ((v.extractLsb' 8 2).setWidth 8) = 0#5 := by
      generalize v.extractLsb' 8 2 = bits
      revert bits
      decide
    exact { hs with pins := ((pinLines_or hbits).trans (pinLines_and rfl)).trans hs.pins }
  -- Config
  case h_13 => exact writeConfig_inv h hs
  -- WatchLo
  case h_15 => cases h; exact { hs with watchLo := watchLo_masked _ }
  -- TagLo
  case h_19 => cases h; exact { hs with tagLo := reserved_masked _ _ }
  all_goals cases h; exact { hs with }

/-! ### Instructions -/

theorem writeGpr_inv {s : State} (hs : Inv s) (r : Reg) (v : Word) : Inv (writeGpr s r v) := by
  unfold writeGpr
  split
  · exact hs
  · next hr =>
    have hne : r.toNat ≠ 0 := fun e => hr (BitVec.eq_of_toNat_eq e)
    exact { hs with zero := (Vector.getElem_set_ne r.isLt _ hne).trans hs.zero }

theorem InstrWrite.inv {i : Instr} {s t : State} (h : InstrWrite i s t) (hs : Inv s) : Inv t := by
  cases h with
  | device h => exact h.inv hs
  | gpr r v => exact writeGpr_inv hs r v
  | fcr31 f s h => exact { hs with fcr31 := h hs.fcr31 }
  | random => exact { hs with random := drawRandom_range s }
  | cop0 _ h => exact cop0Write_inv h hs
  | eret => exact returnFromException_inv hs
  | control | hiLo | cells | linked | tlbRead | tlbEntry | index => exact { hs with }

theorem InstrWrites.inv {i : Instr} {s t : State} (h : InstrWrites i s t) (hs : Inv s) : Inv t := by
  induction h with
  | refl => exact hs
  | tail _ hstep ih => exact hstep.inv ih

theorem InstrEnds.inv {i : Instr} {s t : State} (h : InstrEnds i s t) (hs : Inv s) : Inv t := by
  cases h with
  | completes h => exact h.inv hs
  | raises e f hf ht =>
    subst ht
    exact takeException_inv e { hs with fcr31 := hf hs.fcr31 }

/-! ### The instruction step -/

/-- The answer of an effect that keeps the invariant keeps it: an exception instead is entered from the state before. -/
theorem finish_inv {s : State} (hs : Inv s) {r : Res State} (h : Gives Inv r) {t : State} (ht : finish s r = .next t) :
    Inv t := by
  rcases (finish_next s t r).mp ht with hr | ⟨e, -, rfl⟩
  · exact h t hr
  · exact takeException_inv e hs

theorem execDecoded_inv {d : Decoded} {s t : State} (h : execDecoded d s = .next t) (hs : Inv s) : Inv t := by
  cases d with
  | instr i => exact (exec_ends i s t h).inv hs
  | shouldBeZero i =>
    refine finish_inv hs (.after ?_) h
    split
    · exact .after (.stop _)
    · exact .stop _
  | reserved => exact finish_inv (r := raise _) hs (.stop _) h
  | reservedCop unit => exact finish_inv hs (.after (.stop _)) h
  | cop2 => exact finish_inv hs (.ite (.stop _) (.stop _)) h
  | fpUnimplemented =>
    have hf : fcrSetCause s.fcr31 causeE &&& ~~~fcr31Mask = 0 := fcrSetCause_allowed causeE s hs.fcr31
    have hset : Inv { s with fcr31 := fcrSetCause s.fcr31 causeE } := { hs with fcr31 := hf }
    exact finish_inv hs (.after (.ok (takeException_inv .floatingPoint hset))) h

theorem fetchWord_inv {w : Word32} {s t : State} (h : fetchWord s = .ok (w, t)) (hs : Inv s) : Inv t := by
  simp only [fetchWord, res_bind_ok, Prod.exists, res_pure, Except.ok.injEq, Prod.mk.injEq] at h
  obtain ⟨p, -, bytes, u, hread, -, rfl⟩ := h
  exact (busRead_deviceWrites hread).inv hs

theorem instructionStep_inv {s t : State} (h : instructionStep s = .next t) (hs : Inv s) : Inv t := by
  unfold instructionStep at h
  split at h
  · next hfetch => exact execDecoded_inv h (fetchWord_inv hfetch hs)
  · exact finish_inv hs (.stop _) h

/-! ### The timer and the interrupts -/

theorem timerStep_inv (qualifies : Bool) {s : State} (hs : Inv s) :
    Inv (timerStep Config.timerOnIp7 qualifies s) := by
  have htimer : (timerStep Config.timerOnIp7 qualifies s).timerCond = false := by
    simp [timerStep, Config.timerOnIp7, hs.timer]
  have hpins : pinLines (timerStep Config.timerOnIp7 qualifies s).cp0.cause.ip = pinLines s.cp0.cause.ip := by
    change pinLines (ite _ (s.cp0.cause.ip ||| 0x80#8) s.cp0.cause.ip) = _
    rw [apply_ite pinLines, pinLines_or rfl, ite_self]
  exact { hs with timer := htimer, pins := hpins.trans hs.pins }

theorem ipWithPins_pins (pins : BitVec 5) (ip : BitVec 8) : (ipWithPins pins ip).extractLsb' 2 5 = pins := by
  apply BitVec.eq_of_getLsbD_eq
  intro n hn
  rw [BitVec.getLsbD_extractLsb', ipWithPins_getLsbD pins ip (by omega), if_pos (by omega)]
  simp [hn]

theorem latchPins_inv {s : State} (hs : Inv s) : Inv (latchPins s) := { hs with pins := ipWithPins_pins _ _ }

theorem interruptService_inv {s : State} (hs : Inv s) : Inv (interruptService Config.timerOnIp7 s) := by
  have ht := latchPins_inv hs
  unfold interruptService
  dsimp only
  split
  · exact takeException_inv .interrupt ht
  · exact ht

theorem afterInstruction_inv {s : State} (hs : Inv s) : Inv (afterInstruction s) :=
  interruptService_inv (timerStep_inv _ hs)

/-! ### The gap between two ticks -/

theorem whenRunning_inv {s t : State} (hs : Inv (releaseResets s)) (ht : Inv (releaseResets t)) :
    Inv (releaseResets (whenRunning s t)) := by
  unfold whenRunning
  split
  · exact hs
  · exact ht

theorem releasedSlot_inv {s : State} (hs : Inv (releaseResets s)) (blk : Block) (k : Nat) (v : Word32) :
    Inv (releaseResets (setWriteSide blk k v s)) := by
  have hwrite := (DeviceWrite.slot blk k v (releaseResets s)).inv hs
  cases blk <;> exact hwrite

/-- A move keeps the invariant but for the reset inputs, which the end of the gap releases. -/
theorem applyMove_inv (m : EnvMove) {s : State} (hs : Inv (releaseResets s)) : Inv (releaseResets (applyMove m s)) := by
  cases m with
  | pins level => exact { hs with pins := ipWithPins_pins level _ }
  | coldReset | softReset | nmi | push => exact { hs with }
  | spByte p b =>
    refine whenRunning_inv hs ?_
    split
    · exact { hs with memory := wf_write p.toNat b s.mem hs.memory }
    · exact hs
  | spPc v => exact whenRunning_inv hs (releasedSlot_inv hs .spPc 0 v)
  | spDma k v => exact whenRunning_inv hs (releasedSlot_inv hs .sp k.toNat v)
  | spFlags | spSemaphore => exact whenRunning_inv hs { hs with }

theorem applyMoves_inv (moves : List EnvMove) {s : State} (hs : Inv (releaseResets s)) :
    Inv (releaseResets (moves.foldl (fun t m => applyMove m t) s)) := by
  induction moves generalizing s with
  | nil => exact hs
  | cons m rest ih => exact ih (applyMove_inv m hs)

theorem applyInputs_inv {s : State} (hs : Inv (releaseResets s)) : Inv (releaseResets (applyInputs s)) := by
  unfold applyInputs
  split
  · exact hs
  · exact applyMoves_inv _ { hs with }

/-! ### Resets -/

theorem getD_ofFn_masked {n : Nat} (free : Fin n → Word32) (mask : Nat → Word32) (k : Nat) :
    (Vector.ofFn fun i => free i &&& mask i.val).toList.getD k 0 &&& ~~~(mask k) = 0 := by
  rw [Vector.toList_ofFn, List.getD, List.getElem?_ofFn]
  split
  · exact reserved_masked _ (mask k)
  · exact BitVec.zero_and

theorem resetBlocks_masked (s : State) : BlocksMasked (resetBlocks s) := by
  intro blk k
  cases blk <;> exact getD_ofFn_masked _ (slotMask _) k

/-- Where no rule leaves a bit of Config open, its reset value is fixed (spec/10_state.md R55, R75). -/
theorem configReset_fixed {mask : Word32} (h : 0x7000000F#32 &&& mask = 0) :
    Config.configReset &&& mask = 0x0006E460#32 &&& mask := by
  rw [Config.configReset, BitVec.and_or_distrib_right, BitVec.and_assoc, h]
  change Config.configPins &&& 0#32 ||| _ = _
  rw [BitVec.and_zero, BitVec.zero_or]

/-- What a cold reset keeps of the state that the invariant speaks of. -/
theorem coldResetEntry_kept (s : State) :
    (coldResetEntry s).cp0.prid = s.cp0.prid ∧ (coldResetEntry s).fcr0 = s.fcr0 ∧
      (coldResetEntry s).coldResetPin = s.coldResetPin ∧ (coldResetEntry s).softResetPin = s.softResetPin ∧
      (coldResetEntry s).nmiPin = s.nmiPin := by
  dsimp only [coldResetEntry, resetBlocks, spendDraws, coldCp0]
  exact ⟨rfl, rfl, rfl, rfl, rfl⟩

theorem coldResetEntry_pins (s : State) :
    (coldResetEntry s).cp0.cause.ip.extractLsb' 2 5 = (coldResetEntry s).intPins := by
  dsimp only [coldResetEntry, resetBlocks, spendDraws, coldCp0]
  exact ipWithPins_pins _ _

theorem coldResetEntry_inv {s : State} (hs : Inv s) : Inv (coldResetEntry s) := by
  obtain ⟨hprid, hfcr0, hkeptPins⟩ := coldResetEntry_kept s
  exact {
    memory := wf_forget _ _ _ (wf_forget _ _ _ (wf_forget _ _ _ hs.memory))
    zero := Vector.getElem_ofFn _
    status := reserved_or (by rw [BitVec.and_assoc]; exact BitVec.and_zero) rfl
    fcr31 := reserved_masked _ _
    random := fun _ => ⟨Nat.zero_le _, Nat.le_refl _⟩
    config := (configReset_fixed rfl).trans rfl
    watchLo := watchLo_masked _
    tagLo := reserved_masked _ _
    pins := coldResetEntry_pins s
    timer := rfl
    ids := ⟨hprid.trans hs.ids.1, hfcr0.trans hs.ids.2⟩
    blocks := resetBlocks_masked _
    resets := by
      obtain ⟨hcold, hsoft, hnmi⟩ := hkeptPins
      rw [hcold, hsoft, hnmi]
      exact hs.resets }

theorem softResetEntry_inv {s : State} (hs : Inv s) : Inv (softResetEntry s) :=
  { hs with
    status := reserved_or (reserved_and hs.status _) rfl
    blocks := resetBlocks_masked _ }

theorem serviceResets_inv {s : State} (hs : Inv (releaseResets s)) : Inv (serviceResets s) := by
  unfold serviceResets
  split
  · exact coldResetEntry_inv hs
  · next hcold =>
    split
    · exact softResetEntry_inv hs
    · next hother =>
      simp only [Bool.or_eq_true, not_or, Bool.not_eq_true] at hcold hother
      exact { hs with resets := ⟨hcold, hother⟩ }

theorem beginTick_inv {s : State} (hs : Inv s) : Inv (beginTick s) :=
  serviceResets_inv (applyInputs_inv { hs with resets := ⟨rfl, rfl, rfl⟩ })

/-! ### The statements -/

/-- Settles O59: the gap, the instruction step and what follows it each keep the invariant. -/
theorem stepKeepsInv : Obligations.StepKeepsInv := by
  unfold Obligations.StepKeepsInv
  intro s t hs ht
  unfold step endTick at ht
  split at ht
  · next u hu =>
    cases ht
    exact afterInstruction_inv (instructionStep_inv hu (beginTick_inv hs))
  · cases ht
  · cases ht

theorem getD_replicate_zero (n k : Nat) : (Vector.replicate n (0 : Word32)).toList.getD k 0 = 0 := by
  rw [Vector.toList_replicate, List.getD, List.getElem?_replicate]
  split <;> rfl

/-- Every register slot is zero right after reset (log 5). -/
theorem writeSide_reset (blk : Block) (k : Nat) : writeSide blk k State.reset = 0 := by
  cases blk <;> exact getD_replicate_zero _ k

/-- Settles O58: each reset value meets its clause by its value alone, but for Config, which has bits of any value. -/
theorem resetInv : Obligations.ResetInv where
  memory := rfl
  zero := Vector.getElem_replicate _
  status := rfl
  fcr31 := rfl
  random _ := ⟨Nat.zero_le _, Nat.le_refl _⟩
  config := (configReset_fixed rfl).trans rfl
  watchLo := rfl
  tagLo := rfl
  pins := rfl
  timer := rfl
  ids := ⟨rfl, rfl⟩
  blocks blk k := by rw [writeSide_reset]; exact BitVec.zero_and
  resets := ⟨rfl, rfl, rfl⟩

end Sys2Proof.Machine
end

section
/-! Proofs of the family 10_state: what writes HI and LO, LLbit and the TLB; control transfers in a delay slot; the cold
reset. -/

namespace Sys2Proof.Machine

/-! ### Who writes HI, LO, LLbit and the TLB -/

/-- What instruction i may have done to HI, LO, LLbit and the TLB between s and t (spec/10_state.md R34, R38;
spec/20_memory.md R166). -/
structure UnitWrites (i : Instr) (s t : State) : Prop where
  hi : t.hi ≠ s.hi → WritesHiLo i
  lo : t.lo ≠ s.lo → WritesHiLo i
  llbit : t.llbit ≠ s.llbit → (t.llbit = true ∧ LoadsLinked i) ∨ (t.llbit = false ∧ i = .eret)
  tlb : t.tlb ≠ s.tlb → i = .tlbwi ∨ i = .tlbwr

section
variable {i : Instr} {s t u : State}

/-- A state u equal to s that shows the four as t has them: nothing happened to them. -/
theorem UnitWrites.of_frame (hu : u = s) (hhi : t.hi = u.hi) (hlo : t.lo = u.lo) (hllbit : t.llbit = u.llbit)
    (htlb : t.tlb = u.tlb) : UnitWrites i s t := by
  subst hu
  exact ⟨absurd hhi, absurd hlo, absurd hllbit, absurd htlb⟩

/-- What holds of a value that changed holds of it when it changed in the last of two steps, or in the first. -/
theorem change_trans {α : Type} {P : α → Prop} {a b c : α} (hab : b ≠ a → P b) (hbc : c ≠ b → P c) : c ≠ a → P c := by
  intro hne
  by_cases h : c = b
  · subst h
    exact hab hne
  · exact hbc h

theorem UnitWrites.trans (hst : UnitWrites i s t) (htu : UnitWrites i t u) : UnitWrites i s u where
  hi := change_trans (P := fun _ => WritesHiLo i) hst.hi htu.hi
  lo := change_trans (P := fun _ => WritesHiLo i) hst.lo htu.lo
  llbit := change_trans (P := fun b => (b = true ∧ LoadsLinked i) ∨ (b = false ∧ i = .eret)) hst.llbit htu.llbit
  tlb := change_trans (P := fun _ => i = .tlbwi ∨ i = .tlbwr) hst.tlb htu.tlb

/-- MTC0 and DMTC0 change coprocessor 0 registers and the one-shot timer condition only. -/
theorem cop0Write_frame {n : Reg} {v : Word} (h : cop0Write n v s = .ok t) :
    { t with cp0 := s.cp0, timerCond := s.timerCond } = s := by
  unfold cop0Write at h
  dsimp only at h
  split at h
  case h_13 =>
    simp only [writeConfig, res_bind_ok, res_pure, Except.ok.injEq] at h
    obtain ⟨⟨⟩, -, rfl⟩ := h
    rfl
  all_goals cases h; rfl

theorem returnFromException_frame (s : State) :
    { returnFromException s with pc := s.pc, cp0 := s.cp0, llbit := s.llbit } = s ∧
      (returnFromException s).llbit = false := by
  unfold returnFromException
  split <;> exact ⟨rfl, rfl⟩

theorem InstrWrite.unitWrites (h : InstrWrite i s t) : UnitWrites i s t := by
  cases h with
  | device h => exact .of_frame h.sameCpu rfl rfl rfl rfl
  | cop0 _ h => exact .of_frame (cop0Write_frame h) rfl rfl rfl rfl
  | gpr r v =>
    exact .of_frame rfl (writeGpr_hi s r v) (writeGpr_lo s r v) (writeGpr_llbit s r v) (writeGpr_tlb s r v)
  | hiLo h => exact ⟨fun _ => h, fun _ => h, absurd rfl, absurd rfl⟩
  | linked h => exact ⟨absurd rfl, absurd rfl, fun _ => .inl ⟨rfl, h⟩, absurd rfl⟩
  | tlbEntry h => exact ⟨absurd rfl, absurd rfl, absurd rfl, fun _ => h⟩
  | eret h =>
    obtain ⟨hframe, hclear⟩ := returnFromException_frame s
    have hrest : UnitWrites i s { returnFromException s with llbit := s.llbit } := .of_frame hframe rfl rfl rfl rfl
    exact ⟨hrest.hi, hrest.lo, fun _ => .inr ⟨hclear, h⟩, hrest.tlb⟩
  | control | cells | fcr31 | random | tlbRead | index => exact .of_frame rfl rfl rfl rfl rfl

theorem InstrEnds.unitWrites (h : InstrEnds i s t) : UnitWrites i s t := by
  cases h with
  | raises e f _ ht =>
    subst ht
    have hframe := (enters_takeException e { s with fcr31 := f }).rest
    exact .trans (.of_frame (t := { s with fcr31 := f }) rfl rfl rfl rfl rfl) (.of_frame hframe rfl rfl rfl rfl)
  | completes h =>
    induction h with
    | refl => exact .of_frame rfl rfl rfl rfl rfl
    | tail _ hstep ih => exact ih.trans hstep.unitWrites

end

/-- Settles O51: each kind of single write changes only its own part of the four, and the entry of an exception none. -/
theorem stateWriters : Obligations.StateWriters := by
  unfold Obligations.StateWriters
  intro i s t h
  have hunits := (exec_ends i s t h).unitWrites
  exact ⟨fun hne => hne.elim hunits.hi hunits.lo, hunits.llbit, hunits.tlb⟩

/-! ### Control transfers in a delay slot -/

section
variable {s : State} (h : s.delay ≠ none)
include h

theorem branchLikelyIf_slot (c : Bool) (offset : BitVec 16) :
    branchLikelyIf c offset s = .error (.refused .branchInDelaySlot) := by
  unfold branchLikelyIf
  split
  · exact branchTo_slot _ s h
  · exact skipSlot_slot s h

theorem finish_branchTo_slot (target : Word) (s' : State) :
    finish s' (branchTo target s) = .refused .branchInDelaySlot := by
  rw [branchTo_slot target s h]
  rfl

theorem finish_branchLikelyIf_slot (c : Bool) (offset : BitVec 16) (s' : State) :
    finish s' (branchLikelyIf c offset s) = .refused .branchInDelaySlot := by
  rw [branchLikelyIf_slot h]
  rfl

theorem link_slot (r : Reg) : (link r s).delay ≠ none := by rwa [link, writeGpr_delay]

end

/-- A test that passes leaves the answer to what follows it. -/
theorem finish_after {s : State} {x : Res Unit} {r : Res State} {q : Result} (hx : x = .ok ()) (hr : finish s r = q) :
    finish s (x >>= fun _ => r) = q := by
  rw [hx]
  exact hr

/-- Settles O16: every transfer ends in `branchTo` or `skipSlot`, which refuse in a delay slot; the linking ones write
their register first, which does not leave the slot. -/
theorem branchInDelaySlotRefused : Obligations.BranchInDelaySlotRefused := by
  unfold Obligations.BranchInDelaySlotRefused
  intro s rs rt rd offset target h
  have hto : ∀ x, finish s (branchTo x s) = .refused .branchInDelaySlot := fun x => finish_branchTo_slot h x s
  have hlikely : ∀ c, finish s (branchLikelyIf c offset s) = .refused .branchInDelaySlot :=
    fun c => finish_branchLikelyIf_slot h c offset s
  have hlink : (link 31 s).delay ≠ none := link_slot h 31
  simp only [List.forall_mem_cons, List.not_mem_nil, false_implies, implies_true, and_true]
  refine ⟨?plain, fun hne => ?jalr, fun hne => ?linking, fun hcu1 => ?condition, fun ⟨m, hmode, husable⟩ => ?eret⟩
  case plain =>
    exact ⟨hto _, finish_branchTo_slot hlink _ s, hto _, hto _, hto _, hto _, hto _, hlikely _, hlikely _, hlikely _,
      hlikely _, hto _, hto _, hlikely _, hlikely _⟩
  case jalr =>
    exact finish_after ((require_ok _ _).mpr (bne_iff_ne.mpr hne)) (finish_branchTo_slot (link_slot h rd) _ s)
  case linking =>
    have hreq : requireNotLink rs = .ok () := (require_ok _ _).mpr (bne_iff_ne.mpr hne)
    exact ⟨finish_after hreq (finish_branchTo_slot hlink _ s), finish_after hreq (finish_branchTo_slot hlink _ s),
      finish_after hreq (finish_branchLikelyIf_slot hlink _ offset s),
      finish_after hreq (finish_branchLikelyIf_slot hlink _ offset s)⟩
  case condition =>
    have hreq := requireCop1_ok s hcu1
    exact ⟨finish_after hreq (hto _), finish_after hreq (hto _), finish_after hreq (hlikely _),
      finish_after hreq (hlikely _)⟩
  case eret =>
    have hnone : s.delay.isNone = false := by simpa [Option.isSome_iff_ne_none] using h
    refine finish_after (requireCop0_ok s m hmode husable) ?_
    rw [hnone]
    rfl

/-! ### The cold reset -/

/-- Settles O56: each value stands in `State.reset`; the reset vector lies in an unmapped segment, so that the fetch
translates it to the boot ROM. -/
theorem resetState : Obligations.ResetState := by
  unfold Obligations.ResetState
  refine ⟨rfl, rfl, rfl, rfl, rfl, rfl, rfl, rfl, rfl, rfl, (configReset_fixed rfl).trans rfl, rfl, rfl, rfl,
    rfl, ?_, ?_⟩
  · exact fun n => Vector.getElem_replicate n.isLt
  · decide

end Sys2Proof.Machine
end

section
/-! Proofs of the family 20_memory: the segments of the address space and the TLB (spec/20_memory.md R110 to R121). -/

namespace Sys2Proof.Machine

/-! ### Segments -/

theorem inRange_iff (va lo hi : Word) : inRange va lo hi = true ↔ lo.toNat ≤ va.toNat ∧ va.toNat ≤ hi.toNat := by
  simp only [inRange, Bool.and_eq_true, decide_eq_true_eq, BitVec.le_def]

section
variable (st : Word32) (erl : Bool) (va : Word)

theorem userLow_eq : userLow erl va =
    if erl = true ∧ va.toNat < 2 ^ 31 then .unmapped (BitVec.ofNat 32 va.toNat) else .mapped := by
  have hlow : inRange va 0 0x7FFFFFFF = true ↔ va.toNat < 2 ^ 31 :=
    (inRange_iff ..).trans ((and_iff_right (Nat.zero_le _)).trans Nat.lt_succ_iff.symm)
  simp only [userLow, Bool.and_eq_true, hlow, BitVec.ofNat_toNat]

theorem kernelUpper_eq : kernelUpper va =
    if 0xFFFFFFFF80000000 ≤ va.toNat ∧ va.toNat < 0xFFFFFFFFC0000000
    then .unmapped (BitVec.ofNat 32 (va.toNat % 2 ^ 29)) else .mapped := by
  have hrange : inRange va 0xFFFFFFFF80000000 0xFFFFFFFFBFFFFFFF = true ↔
      0xFFFFFFFF80000000 ≤ va.toNat ∧ va.toNat < 0xFFFFFFFFC0000000 :=
    (inRange_iff ..).trans (and_congr_right fun _ => Nat.lt_succ_iff.symm)
  have hoffset : (va.extractLsb' 0 29).setWidth 32 = BitVec.ofNat 32 (va.toNat % 2 ^ 29) := by
    rw [← BitVec.ofNat_toNat, BitVec.extractLsb'_toNat, Nat.shiftRight_zero]
  simp only [kernelUpper, hrange, hoffset]

theorem xkphys_iff : va.extractLsb' 32 27 = 0 ↔ va.toNat / 2 ^ 32 % 2 ^ 27 = 0 := by
  rw [← BitVec.toNat_inj, BitVec.extractLsb'_toNat, Nat.shiftRight_eq_div_pow]
  rfl

/-- The segments of user mode in both addressing widths. -/
theorem segmentOf_user : segmentOf st .user va =
    if (if st.getLsbD 5 then va.toNat < 2 ^ 40 else va.toNat < 2 ^ 31) then some .mapped else none := by
  simp only [segmentOf, wideAddressing, statusUx, segment64, segment32, inRange_iff]
  grind

/-- The segments of supervisor mode in both addressing widths. -/
theorem segmentOf_supervisor : segmentOf st .supervisor va =
    if (if st.getLsbD 6 then va.toNat < 2 ^ 40 else va.toNat < 2 ^ 31) ∨
      (st.getLsbD 6 = true ∧ 0x4000000000000000 ≤ va.toNat ∧ va.toNat < 0x4000010000000000) ∨
      (0xFFFFFFFFC0000000 ≤ va.toNat ∧ va.toNat < 0xFFFFFFFFE0000000)
    then some .mapped else none := by
  simp only [segmentOf, wideAddressing, statusSx, segment64, segment32, inRange_iff]
  grind

/-- The segments of kernel mode in both addressing widths: kseg0 and kseg1, then what else is unmapped, then what the
TLB maps. -/
theorem segmentOf_kernel : segmentOf st .kernel va =
    if 0xFFFFFFFF80000000 ≤ va.toNat ∧ va.toNat < 0xFFFFFFFFC0000000
    then some (.unmapped (BitVec.ofNat 32 (va.toNat % 2 ^ 29)))
    else if (st.getLsbD 7 = true ∧ 0x8000000000000000 ≤ va.toNat ∧ va.toNat < 0xC000000000000000 ∧
        va.toNat / 2 ^ 32 % 2 ^ 27 = 0) ∨ (st.getLsbD 2 = true ∧ va.toNat < 2 ^ 31)
    then some (.unmapped (BitVec.ofNat 32 va.toNat))
    else if (if st.getLsbD 7 then va.toNat < 2 ^ 40 else va.toNat < 2 ^ 31) ∨ 0xFFFFFFFFC0000000 ≤ va.toNat ∨
        (st.getLsbD 7 = true ∧ ((0x4000000000000000 ≤ va.toNat ∧ va.toNat < 0x4000010000000000) ∨
          (0xC000000000000000 ≤ va.toNat ∧ va.toNat < 0xC00000FF80000000)))
    then some .mapped else none := by
  have hmax := va.isLt
  have hphys : va.setWidth 32 = BitVec.ofNat 32 va.toNat := (BitVec.ofNat_toNat ..).symm
  simp only [segmentOf, wideAddressing, statusKx, statusErl, segment64, segment32, inRange_iff, userLow_eq,
    kernelUpper_eq, xkphys_iff, hphys]
  generalize va.toNat / 2 ^ 32 % 2 ^ 27 = middle
  generalize va.toNat % 2 ^ 29 = offset
  grind

end

theorem translate_eq {store : Bool} {va : Word} {s : State} {m : Mode} (hmode : modeOf s.cp0.status = some m) :
    translate store va s = match segmentOf s.cp0.status m va with
      | none => .error (.exc (.addressError store va))
      | some (.unmapped p) => .ok p
      | some .mapped => tlbTranslate store (wideAddressing s.cp0.status m) va s := by
  rw [translate, currentMode_eq s m hmode]
  rfl

/-- Settles O26: in each mode the segments, as ranges of the address in both widths, are those of the statement. -/
theorem segmentValidity : Obligations.SegmentValidity := by
  unfold Obligations.SegmentValidity
  intro store va s m hmode
  cases m
  case user =>
    simp only [translate_eq hmode, segmentOf_user, wideAddressing, statusUx]
    grind
  case supervisor =>
    simp only [translate_eq hmode, segmentOf_supervisor, wideAddressing, statusSx]
    grind
  case kernel =>
    simp only [translate_eq hmode, segmentOf_kernel, wideAddressing, statusKx]
    generalize va.toNat / 2 ^ 32 % 2 ^ 27 = middle
    generalize va.toNat % 2 ^ 29 = offset
    grind

/-! ### The entries that match -/

section
variable {va : Word} {s : State} {i : Fin 32}

/-- Comparing the page numbers under a mask is comparing their bits outside it (spec/20_memory.md R118). -/
theorem entryMatches_iff (e : TlbEntry) (va : Word) (s : State) :
    entryMatches e (va.extractLsb' 62 2) (va.extractLsb' 13 27) s.cp0.entryHi.asid = true ↔ TlbMatches e va s := by
  have hvpn : e.vpn2 &&& ~~~(e.mask.setWidth 27) = va.extractLsb' 13 27 &&& ~~~(e.mask.setWidth 27) ↔
      ∀ k < 27, e.mask.getLsbD k = true ∨ e.vpn2.getLsbD k = va.getLsbD (13 + k) := by
    rw [BitVec.eq_of_getLsbD_eq_iff]
    refine forall₂_congr fun k hk => ?_
    simp only [BitVec.getLsbD_and, BitVec.getLsbD_not, BitVec.getLsbD_setWidth, BitVec.getLsbD_extractLsb', hk]
    cases e.mask.getLsbD k <;> simp
  simp only [entryMatches, TlbMatches, Bool.and_eq_true, Bool.or_eq_true, beq_iff_eq, hvpn, and_assoc]

/-- The entries that match an address in the present address space. -/
def entriesFor (va : Word) (s : State) : List (Fin 32) :=
  matchingEntries s (va.extractLsb' 62 2) (va.extractLsb' 13 27) s.cp0.entryHi.asid

theorem mem_entriesFor : i ∈ entriesFor va s ↔ TlbMatches s.tlb[i] va s := by
  simp only [entriesFor, matchingEntries, List.mem_filter, List.mem_finRange, true_and, entryMatches_iff]

theorem nodup_entriesFor (va : Word) (s : State) : (entriesFor va s).Nodup :=
  List.Nodup.filter _ (List.nodup_finRange 32)

theorem entriesFor_eq_nil (h : ∀ i : Fin 32, ¬ TlbMatches s.tlb[i] va s) : entriesFor va s = [] :=
  List.eq_nil_iff_forall_not_mem.mpr fun i hi => h i (mem_entriesFor.mp hi)

theorem entriesFor_eq_singleton (h : ∀ j : Fin 32, TlbMatches s.tlb[j] va s ↔ j = i) : entriesFor va s = [i] := by
  apply List.perm_singleton.mp
  rw [List.perm_ext_iff_of_nodup (nodup_entriesFor va s) (List.nodup_singleton i)]
  exact fun j => by rw [mem_entriesFor, h, List.mem_singleton]

end

/-! ### Page masks and physical addresses -/

/-- The legal masks are the runs of 1 bits of even length from bit 0 (spec/10_state.md R45). -/
theorem maskBits_eq_some {mask : BitVec 12} {k : Nat} :
    maskBits mask = some k ↔ k ∈ [0, 2, 4, 6, 8, 10, 12] ∧ mask.toNat = 2 ^ k - 1 := by
  constructor
  · intro h
    unfold maskBits at h
    split_ifs at h
    all_goals
      next hmask =>
        subst hmask
        cases h
        decide
  · rintro ⟨hk, hmask⟩
    obtain rfl : mask = BitVec.ofNat 12 (2 ^ k - 1) := by rw [← hmask, BitVec.ofNat_toNat, BitVec.setWidth_eq]
    clear hmask
    revert k
    decide

theorem maskBits_eq_none {mask : BitVec 12} (h : ∀ k ∈ [0, 2, 4, 6, 8, 10, 12], mask.toNat ≠ 2 ^ k - 1) :
    maskBits mask = none :=
  Option.eq_none_iff_forall_ne_some.mpr fun k hk => h k (maskBits_eq_some.mp hk).1 (maskBits_eq_some.mp hk).2

theorem getLsbD_offsetMask (mask : BitVec 12) (j : Nat) :
    (offsetMask mask).getLsbD j = (decide (j < 12) || mask.getLsbD (j - 12)) := by
  have hlow : (0xFFF#64).getLsbD j = decide (j < 12) := by
    rw [BitVec.getLsbD_ofNat, show 0xFFF = 2 ^ 12 - 1 from rfl, Nat.testBit_two_pow_sub_one, ← Bool.decide_and]
    exact decide_eq_decide.mpr (by omega)
  have hmask : mask.getLsbD (j - 12) = true → j < 24 := fun h => by have := BitVec.lt_of_getLsbD h; omega
  simp only [offsetMask, BitVec.getLsbD_or, BitVec.getLsbD_shiftLeft, BitVec.getLsbD_setWidth, BitVec.ofNat_eq_ofNat,
    hlow]
  grind

/-- Bit j of a physical address: of the virtual address inside the page, of the frame above it
(spec/20_memory.md R121). -/
theorem getLsbD_pageAddress (mask : BitVec 12) (page : TlbPage) (va : Word) {j : Nat} (hj : j < 32) :
    (pageAddress mask page va).getLsbD j =
      if j < 12 ∨ mask.getLsbD (j - 12) = true then va.getLsbD j else page.pfn.getLsbD (j - 12) := by
  have h1 : j < 64 := by omega
  have h2 : j - 12 < 64 := by omega
  have h3 : j - 12 < 20 := by omega
  simp only [pageAddress, BitVec.getLsbD_setWidth, BitVec.getLsbD_or, BitVec.getLsbD_and, BitVec.getLsbD_not,
    BitVec.getLsbD_shiftLeft, BitVec.getLsbD_extractLsb', getLsbD_offsetMask, hj]
  by_cases hlow : j < 12
  · simp [hlow, h1]
  · cases mask.getLsbD (j - 12) <;> simp [hlow, h1, h2, h3]

theorem pageAddress_of_mask {mask : BitVec 12} (page : TlbPage) (va : Word) {k : Nat} (hk : mask.toNat = 2 ^ k - 1) :
    pageAddress mask page va = BitVec.ofNat 32
      (page.pfn.toNat % 2 ^ 20 / 2 ^ k * 2 ^ (12 + k) + va.toNat % 2 ^ (12 + k)) := by
  apply BitVec.eq_of_getLsbD_eq
  intro j hj
  have hmask : ∀ n, mask.getLsbD n = decide (n < k) := fun n => by
    rw [← BitVec.testBit_toNat, hk, Nat.testBit_two_pow_sub_one]
  rw [getLsbD_pageAddress mask page va hj, hmask, BitVec.getLsbD_ofNat, Nat.mul_comm,
    Nat.testBit_two_pow_mul_add _ (Nat.mod_lt _ (Nat.two_pow_pos _)), Nat.testBit_mod_two_pow,
    Nat.testBit_div_two_pow, Nat.testBit_mod_two_pow]
  by_cases hpage : j < 12 + k
  · have hinside : j < 12 ∨ j - 12 < k := by omega
    simp [hpage, hinside, hj, BitVec.testBit_toNat]
  · have habove : ¬ (j < 12 ∨ j - 12 < k) := by omega
    have hframe : j - (12 + k) + k = j - 12 := by omega
    have hpfn : j - 12 < 20 := by omega
    simp [hpage, habove, hframe, hpfn, hj, BitVec.testBit_toNat]

/-! ### Translation by the TLB -/

section
variable {store wide : Bool} {va : Word} {s : State}

theorem tlbTranslate_none (h : entriesFor va s = []) :
    tlbTranslate store wide va s = .error (.exc (.tlbRefill store wide va)) := by
  rw [entriesFor] at h
  rw [tlbTranslate, h]
  rfl

theorem tlbTranslate_many {i j : Fin 32} (hij : i ≠ j) (hi : i ∈ entriesFor va s) (hj : j ∈ entriesFor va s) :
    tlbTranslate store wide va s = .error (.refused .multipleTlbMatch) := by
  unfold entriesFor at hi hj
  unfold tlbTranslate
  split
  · next h =>
    rw [h] at hi
    exact absurd hi List.not_mem_nil
  · next h =>
    rw [h, List.mem_singleton] at hi hj
    exact absurd (hi.trans hj.symm) hij
  · rfl

theorem tlbTranslate_illegal {i : Fin 32} (h : entriesFor va s = [i]) (hmask : maskBits s.tlb[i].mask = none) :
    tlbTranslate store wide va s = .error (.refused .illegalPageMask) := by
  rw [entriesFor] at h
  simp only [tlbTranslate, h, hmask, refuse_eq]

/-- One entry matches: its page decides (spec/20_memory.md R120). -/
theorem tlbTranslate_page {i : Fin 32} {k : Nat} {page : TlbPage} (h : entriesFor va s = [i])
    (hmask : maskBits s.tlb[i].mask = some k)
    (hpage : (if va.getLsbD (12 + k) then s.tlb[i].page1 else s.tlb[i].page0) = page) :
    tlbTranslate store wide va s =
      if page.v = false then .error (.exc (.tlbInvalid store va))
      else if store = true ∧ page.d = false then .error (.exc (.tlbModified va))
      else .ok (pageAddress s.tlb[i].mask page va) := by
  rw [entriesFor] at h
  simp only [tlbTranslate, h, hmask, hpage, raise_eq, Bool.not_eq_true', Bool.and_eq_true]

end

/-- Settles O27: the list of matching entries is empty, has two members, or is the one entry, whose mask and page then
decide. -/
theorem tlbTranslation : Obligations.TlbTranslation := by
  unfold Obligations.TlbTranslation
  intro store wide va s
  refine ⟨fun h => tlbTranslate_none (entriesFor_eq_nil h),
    fun i j hij hi hj => tlbTranslate_many hij (mem_entriesFor.mpr hi) (mem_entriesFor.mpr hj), fun i hi => ?_⟩
  have hone := entriesFor_eq_singleton hi
  refine ⟨fun k hk hmask => ?_, fun h => tlbTranslate_illegal hone (maskBits_eq_none h)⟩
  rw [tlbTranslate_page hone (maskBits_eq_some.mpr ⟨hk, hmask⟩) rfl, pageAddress_of_mask _ _ hmask]
  dsimp only
  generalize (if va.getLsbD (12 + k) then s.tlb[i].page1 else s.tlb[i].page0 : TlbPage) = page
  refine ⟨fun hv => if_pos hv, fun hv hstore hd => ?_, fun hv hd => ?_⟩
  · rw [if_neg (by simp [hv]), if_pos ⟨hstore, hd⟩]
  · rw [if_neg (by simp [hv]), if_neg (fun h => by simp [hd h.1] at h)]

/-! ### Translation keeps the offset in a page of 4 KB -/

section
variable {store : Bool} {va : Word} {p : PAddr} {s : State}

/-- A page has at least 4 KB (spec/20_memory.md R121). -/
theorem pageAddress_offset (mask : BitVec 12) (page : TlbPage) (va : Word) :
    (pageAddress mask page va).toNat % 2 ^ 12 = va.toNat % 2 ^ 12 := by
  have hbits : (pageAddress mask page va).setWidth 12 = va.setWidth 12 := by
    apply BitVec.eq_of_getLsbD_eq
    intro k hk
    simp only [BitVec.getLsbD_setWidth, getLsbD_pageAddress mask page va (show k < 32 by omega), hk, true_or, if_true]
  simpa only [BitVec.toNat_setWidth] using congrArg BitVec.toNat hbits

theorem tlbTranslate_offset {wide : Bool} (h : tlbTranslate store wide va s = .ok p) :
    p.toNat % 2 ^ 12 = va.toNat % 2 ^ 12 := by
  unfold tlbTranslate at h
  split at h
  · cases h
  · split at h
    · cases h
    · dsimp only at h
      generalize (if va.getLsbD _ = true then _ else _ : TlbPage) = page at h
      split at h
      · cases h
      · split at h
        · cases h
        · cases h
          exact pageAddress_offset _ page va
  · cases h

theorem segmentOf_unmapped_offset {st : Word32} {m : Mode} (h : segmentOf st m va = some (.unmapped p)) :
    p.toNat % 2 ^ 12 = va.toNat % 2 ^ 12 := by
  cases m
  case user =>
    rw [segmentOf_user] at h
    cases (Option.ite_none_right_eq_some.mp h).2
  case supervisor =>
    rw [segmentOf_supervisor] at h
    cases (Option.ite_none_right_eq_some.mp h).2
  case kernel =>
    rw [segmentOf_kernel] at h
    split at h
    · cases h
      rw [BitVec.toNat_ofNat]
      omega
    · split at h
      · cases h
        rw [BitVec.toNat_ofNat]
        omega
      · cases (Option.ite_none_right_eq_some.mp h).2

theorem translate_offset (h : translate store va s = .ok p) : p.toNat % 2 ^ 12 = va.toNat % 2 ^ 12 := by
  cases hmode : modeOf s.cp0.status with
  | none =>
    rw [translate, currentMode, hmode] at h
    cases h
  | some m =>
    rw [translate_eq hmode] at h
    split at h
    · cases h
    · next hsegment =>
      cases h
      exact segmentOf_unmapped_offset hsegment
    · exact tlbTranslate_offset h

end

end Sys2Proof.Machine
end

section
/-! Proofs of the family 20_memory: the checks of an access, and what every instruction with an access does when nothing
but its access can stop it (spec/20_memory.md R104, R122, R130 to R132, R143, R151). -/

namespace Sys2Proof.Machine

/-! ### The checks of an access -/

section
variable {store : Bool} {n : Nat} {va : Word} {p : PAddr} {s : State}

theorem checkByteOrder_ok (h : PlainOrder s) : checkByteOrder s = .ok () := by
  obtain ⟨m, hmode, horder⟩ := h
  rw [checkByteOrder, currentMode_eq s m hmode, res_ok_bind, require_ok]
  cases m
  case user => rw [horder rfl]; rfl
  case kernel | supervisor => rfl

theorem isAligned_false (h : va.toNat % n ≠ 0) : isAligned n va = false := beq_eq_false_iff_ne.mpr h

/-- A misaligned data access stops before translation (spec/20_memory.md R104, R122). -/
theorem dataAddress_misaligned (ho : PlainOrder s) (h : va.toNat % n ≠ 0) :
    dataAddress store n va s = .error (.exc (.addressError store va)) := by
  simp only [dataAddress, checkByteOrder_ok ho, isAligned_false h, res_ok_bind, require_false, res_error_bind]

theorem fetchAddress_misaligned (ho : PlainOrder s) (h : va.toNat % 4 ≠ 0) :
    fetchAddress va s = .error (.exc (.addressError false va)) := by
  simp only [fetchAddress, checkByteOrder_ok ho, isAligned_false h, res_ok_bind, require_false, res_error_bind]

theorem dataAddress_ok (h : dataAddress store n va s = .ok p) : va.toNat % n = 0 ∧ translate store va s = .ok p := by
  simp only [dataAddress, res_bind_ok, res_pure, Except.ok.injEq] at h
  obtain ⟨⟨⟩, -, ⟨⟩, halign, q, hq, ⟨⟩, -, rfl⟩ := h
  exact ⟨beq_iff_eq.mp ((require_ok _ _).mp halign), hq⟩

/-- A physical address has its place in its doubleword from the virtual address. -/
theorem dataAddress_offset (h : dataAddress store n va s = .ok p) : p.toNat % 8 = va.toNat % 8 := by
  have hoffset := translate_offset (dataAddress_ok h).2
  omega

end

/-! ### The tests before an access -/

section
variable {s : State} {f : Reg}

theorem Permits64.require64 (h : Permits64 s) : require64 s = .ok () := by
  obtain ⟨m, hmode, hops⟩ := h
  exact require64_ok s m hmode hops

theorem isOdd_eq (f : Reg) : isOdd f = decide (f.toNat % 2 = 1) := by
  rw [isOdd, ← BitVec.testBit_toNat, Nat.testBit_zero]

theorem requireFloat_ok (h : s.cp0.status.getLsbD 26 = true ∨ f.toNat % 2 = 0) : requireFloat s f = .ok () := by
  rw [requireFloat, require_ok, validF64, isOdd_eq, fr, statusFr]
  rcases h with h | h
  · rw [h, Bool.true_or]
  · rw [h]
    exact Bool.or_true _

theorem requireFloat_error (hfr : s.cp0.status.getLsbD 26 = false) (hodd : f.toNat % 2 = 1) :
    requireFloat s f = .error (.refused .oddFloatRegister) := by
  rw [requireFloat, validF64, isOdd_eq, fr, statusFr, hfr, hodd]
  rfl

end

/-! ### Bytes without a device -/

section
variable {q : PAddr} {s : State}

/-- A read and a write of the byte at q stop with the fault that names q (spec/20_memory.md R143, R151). -/
structure Unclaimed (q : PAddr) (s : State) : Prop where
  read : readByte q s = noDevice q
  write : ∀ b, writeByte q b s = noDevice q

theorem unclaimed_of_unresolved (h : resolve q = none) : Unclaimed q s where
  read := by rw [readByte, h]
  write b := by rw [writeByte, h]

theorem unclaimed_of_unpopulated (hsize : s.rdramSize ≤ q.toNat) (hq : q.toNat ≤ 0x03EFFFFF) : Unclaimed q s := by
  have hres := resolve_rdram (Nat.lt_succ_of_le hq)
  have hoff : ¬ q.toNat < s.rdramSize := Nat.not_lt.mpr hsize
  constructor
  · simp only [readByte, hres, if_neg hoff]
  · simp only [writeByte, hres, if_neg hoff, implies_true]

theorem busRead_unclaimed {n : Nat} (hn : 0 < n) (h : Unclaimed q s) : busRead q n s = noDevice q := by
  obtain ⟨k, rfl⟩ := Nat.exists_eq_succ_of_ne_zero hn.ne'
  rw [busRead, readBytes, h.read]
  rfl

theorem length_bytesOf (n : Nat) (v : Word) : (bytesOf n v).length = n := by
  rw [bytesOf, List.length_map, List.length_range]

theorem busWrite_unclaimed {n : Nat} (hn : 0 < n) (v : Word) (h : Unclaimed q s) :
    busWrite q (bytesOf n v) s = noDevice q := by
  have hlength : 0 < (bytesOf n v).length := by rwa [length_bytesOf]
  obtain ⟨b, rest, hbytes⟩ := List.exists_cons_of_length_pos hlength
  rw [hbytes, busWrite, storeBytes, h.write]
  rfl

end

/-! ### Instructions with an access -/

/-- The result r is the checks of an access to va and then its rest; when the access is performed, the rest begins at
the byte `first` gives, so that it stops there when no device has that byte. -/
def Accesses (store : Bool) (align : Nat) (va : Word) (first : PAddr → PAddr) (performed : Prop) (s : State)
    (r : Result) : Prop :=
  ∃ rest : PAddr → Res State, r = complete s (dataAddress store align va s >>= rest) ∧
    ∀ p, dataAddress store align va s = .ok p → performed → Unclaimed (first p) s → rest p = noDevice (first p)

/-- A store-conditional is performed only while LLbit is set (spec/40_load_store.md R232, R233). -/
def Performed (i : Instr) (s : State) : Prop := ∀ b r o, i = .sc b r o ∨ i = .scd b r o → s.llbit = true

section
variable {store : Bool} {align back n : Nat} {va v : Word} {first : PAddr → PAddr} {performed : Prop} {s : State}
  {base rt : Reg} {offset : BitVec 16} {extend : Word → Word} {p : PAddr}

/-- A test that passes leaves the answer to what follows it. -/
theorem Accesses.after {x : Res Unit} {r : Res State} (hx : x = .ok ())
    (h : Accesses store align va first performed s (complete s r)) :
    Accesses store align va first performed s (complete s (x >>= fun _ => r)) := by
  rw [hx]
  exact h

theorem accesses_load (hfirst : ∀ p, dataAddress false align va s = .ok p → p - BitVec.ofNat 32 back = first p)
    (hn : 0 < n) (f : Word × State → Res State) :
    Accesses false align va first performed s (complete s (loadBytes align back n va s >>= f)) := by
  refine ⟨fun p => busRead (p - BitVec.ofNat 32 back) n s >>= fun r => f (wordOf r.1, r.2), ?_, fun p hp _ hq => ?_⟩
  · rw [loadBytes]
    cases dataAddress false align va s with
    | error e => rfl
    | ok p =>
      rw [res_ok_bind, res_ok_bind]
      cases busRead (p - BitVec.ofNat 32 back) n s <;> rfl
  · dsimp only
    rw [hfirst p hp, busRead_unclaimed hn hq]
    rfl

theorem accesses_store (hfirst : ∀ p, dataAddress true align va s = .ok p → p - BitVec.ofNat 32 back = first p)
    (hn : 0 < n) : Accesses true align va first performed s (complete s (storeValue align back n va v s)) := by
  refine ⟨_, rfl, fun p hp _ hq => ?_⟩
  rw [hfirst p hp, busWrite_unclaimed hn v hq]

theorem accesses_linked (hn : 0 < n) : Accesses false n (effectiveAddress (readGpr s base) offset) id performed s
    (complete s (loadLinked n extend base rt offset s)) := by
  refine ⟨_, rfl, fun p hp _ hq => ?_⟩
  have hread : busRead p n s = noDevice p := busRead_unclaimed hn hq
  simp only [loadAligned, loadBytes, hp, res_ok_bind, BitVec.sub_zero, hread]
  rfl

theorem accesses_conditional (hn : 0 < n) (hllbit : performed → s.llbit = true) :
    Accesses true n (effectiveAddress (readGpr s base) offset) id performed s
      (complete s (storeConditional n base rt offset s)) := by
  refine ⟨_, rfl, fun p hp hperformed hq => ?_⟩
  have hwrite : busWrite p (bytesOf n (readGpr s rt)) s = noDevice p := busWrite_unclaimed hn _ hq
  simp only [hllbit hperformed, if_true, hwrite]
  rfl

/-- The right partial forms begin at the aligned word of the address. -/
theorem sub_byteInWord (h : dataAddress store align va s = .ok p) :
    p - BitVec.ofNat 32 (byteInWord va) = p - BitVec.ofNat 32 (p.toNat % 4) := by
  have hoffset := dataAddress_offset h
  rw [byteInWord, show va.toNat % 4 = p.toNat % 4 by omega]

/-- The right partial forms begin at the aligned doubleword of the address. -/
theorem sub_byteInDouble (h : dataAddress store align va s = .ok p) :
    p - BitVec.ofNat 32 (byteInDouble va) = p - BitVec.ofNat 32 (p.toNat % 8) := by
  rw [byteInDouble, dataAddress_offset h]

end

section
variable {i : Instr} {a : Access} {s : State}

/-- Every instruction with an access, when nothing but the access can stop it: one line for each shape of meaning. -/
theorem exec_accesses (ha : accessOf i = some a) (hr : Ready i s) :
    Accesses a.store a.align (a.address s) (firstByte i) (Performed i s) s (exec i s) := by
  obtain ⟨h64, hcop1⟩ := hr
  have hsame := fun (p : PAddr) (_ : dataAddress a.store a.align (a.address s) s = .ok p) => BitVec.sub_zero p
  have hword : 0 < 4 - byteInWord (a.address s) := Nat.sub_pos_of_lt (Nat.mod_lt _ (by decide))
  have hdouble : 0 < 8 - byteInDouble (a.address s) := Nat.sub_pos_of_lt (Nat.mod_lt _ (by decide))
  cases i <;> cases ha
  -- loads
  case lb | lbu | lh | lhu | lw => exact accesses_load hsame (Nat.succ_pos _) _
  case lwu | ld => exact .after (h64 rfl).require64 (accesses_load hsame (Nat.succ_pos _) _)
  case lwl => exact accesses_load hsame hword _
  case lwr => exact accesses_load (fun _ => sub_byteInWord) (Nat.succ_pos _) _
  case ldl => exact .after (h64 rfl).require64 (accesses_load hsame hdouble _)
  case ldr => exact .after (h64 rfl).require64 (accesses_load (fun _ => sub_byteInDouble) (Nat.succ_pos _) _)
  case lwc1 => exact .after (requireCop1_ok s hcop1) (accesses_load hsame (Nat.succ_pos _) _)
  case ldc1 =>
    exact .after (requireCop1_ok s hcop1.1) (.after (requireFloat_ok hcop1.2) (accesses_load hsame (Nat.succ_pos _) _))
  -- stores
  case sb | sh | sw => exact accesses_store hsame (Nat.succ_pos _)
  case sd => exact .after (h64 rfl).require64 (accesses_store hsame (Nat.succ_pos _))
  case swl => exact accesses_store hsame hword
  case swr => exact accesses_store (fun _ => sub_byteInWord) (Nat.succ_pos _)
  case sdl => exact .after (h64 rfl).require64 (accesses_store hsame hdouble)
  case sdr => exact .after (h64 rfl).require64 (accesses_store (fun _ => sub_byteInDouble) (Nat.succ_pos _))
  case swc1 => exact .after (requireCop1_ok s hcop1) (accesses_store hsame (Nat.succ_pos _))
  case sdc1 =>
    exact .after (requireCop1_ok s hcop1.1) (.after (requireFloat_ok hcop1.2) (accesses_store hsame (Nat.succ_pos _)))
  -- linked and conditional
  case ll => exact accesses_linked (Nat.succ_pos _)
  case lld => exact .after (h64 rfl).require64 (accesses_linked (Nat.succ_pos _))
  case sc b r o => exact accesses_conditional (Nat.succ_pos _) fun h => h b r o (.inl rfl)
  case scd b r o =>
    exact .after (h64 rfl).require64 (accesses_conditional (Nat.succ_pos _) fun h => h b r o (.inr rfl))

theorem exec_access_error (ha : accessOf i = some a) (hr : Ready i s) {e : Stop}
    (h : dataAddress a.store a.align (a.address s) s = .error e) : exec i s = finish s (.error e) := by
  obtain ⟨rest, hexec, -⟩ := exec_accesses ha hr
  rw [hexec, h]
  rfl

theorem instructionStep_fetch_error {e : Stop} (h : fetchAddress s.pc s = .error e) :
    instructionStep s = finish s (.error e) := by
  simp only [instructionStep, fetchWord, h, res_error_bind]

/-- What the entry of an exception records of the address (spec/60_exceptions.md R485, R486). -/
theorem recorded_takeException (e : Exc) (s : State) : Recorded e s (takeException e s) := by
  cases e
  case addressError | tlbModified | tlbRefill | tlbInvalid =>
    unfold takeException saveEpc
    split <;> exact ⟨rfl, rfl, rfl, rfl⟩
  all_goals trivial

end

/-! ### The statements -/

/-- Settles O28: the checks come before everything else an instruction does, and the exception they raise is entered
from the state before it. -/
theorem accessExceptions : Obligations.AccessExceptions := by
  unfold Obligations.AccessExceptions
  exact ⟨fun i a s e ha hr h => ⟨_, exec_access_error ha hr h, enters_takeException e s, recorded_takeException e s⟩,
    fun s e h => ⟨_, instructionStep_fetch_error h, enters_takeException e s, recorded_takeException e s⟩⟩

/-- Settles O25: a misaligned address is the exception of the first check. -/
theorem misalignedAccess : Obligations.MisalignedAccess := by
  unfold Obligations.MisalignedAccess
  obtain ⟨haccess, hfetch⟩ := accessExceptions
  exact ⟨fun i a s ha hr ho h => haccess i a s _ ha hr (dataAddress_misaligned ho h),
    fun s ho h => hfetch s _ (fetchAddress_misaligned ho h)⟩

/-- Settles O30: the first byte of the access has no device, and every access begins with that byte. -/
theorem busFaults : Obligations.BusFaults := by
  unfold Obligations.BusFaults
  intro i a s p ha hr hp hperformed q hq
  have hunclaimed : Unclaimed q s :=
    hq.elim unclaimed_of_unresolved fun ⟨hsize, hrange⟩ => unclaimed_of_unpopulated hsize hrange
  obtain ⟨rest, hexec, hrest⟩ := exec_accesses ha hr
  rw [hexec, hp, res_ok_bind, hrest p hp hperformed hunclaimed]
  rfl

end Sys2Proof.Machine
end

section
/-! Proofs of the family 20_memory: the read-only images and the unmodelled registers (spec/20_memory.md R150, R152;
spec/61_platform_devices.md R570). -/

namespace Sys2Proof.Machine

/-! ### Rows of the device table -/

/-- The slots that take a store and keep nothing of it (spec/20_memory.md R152; spec/61_platform_devices.md R570). -/
def ignoringSlots : List Slot := [.cartRom, .pifRom, .rdramReg, .dpcReg, .dpsReg, .miReg, .aiReg, .riReg]

/-- The slots a byte of which is a byte of the cartridge image or a free value. -/
def freeSlots : List Slot := [.cartRom, .rdramReg, .dpcReg, .dpsReg, .miReg, .aiReg, .riReg]

theorem mem_ignoringSlots {slot : Slot} (h : slot ∈ freeSlots) : slot ∈ ignoringSlots := by
  revert slot
  decide

/-- The n bytes from q lie in a row of the device table of that slot. -/
def InSlot (slot : Slot) (q : PAddr) (n : Nat) : Prop :=
  ∃ row ∈ deviceTable, row.slot = slot ∧ row.first ≤ q.toNat ∧ q.toNat + n ≤ row.last + 1

/-- The rows of the table do not overlap (spec/20_memory.md R150). -/
theorem deviceTable_disjoint :
    ∀ row ∈ deviceTable, ∀ row' ∈ deviceTable, row = row' ∨ row.last < row'.first ∨ row'.last < row.first := by decide

theorem deviceTable_last : ∀ row ∈ deviceTable, row.last < 0x20000000 := by decide

/-- The rows that ignore stores begin and end at multiples of 8 (spec/20_memory.md R150). -/
theorem ignoringSlots_aligned :
    ∀ row ∈ deviceTable, row.slot ∈ ignoringSlots → row.first % 8 = 0 ∧ row.last % 8 = 7 := by decide

/-- No slot with a side effect lies in a row that ignores stores (spec/61_platform_devices.md R533). -/
theorem ignoringSlots_effects : ∀ row ∈ deviceTable, row.slot ∈ ignoringSlots → ∀ e ∈ effectTable,
    row.last < e.2.1 ∨ e.2.1 + e.2.2 ≤ row.first := by decide

section
variable {slot : Slot} {q : PAddr} {n : Nat} {s : State}

/-- The first of the bytes resolves to the slot. -/
theorem InSlot.resolve (h : InSlot slot q (n + 1)) : ∃ off, resolve q = some (slot, off) := by
  obtain ⟨row, hrow, hslot, hfirst, hlast⟩ := h
  have hclaims : claims q.toNat row = true := by
    simp only [claims, Bool.and_eq_true, decide_eq_true_eq]
    omega
  obtain ⟨row', hfind⟩ := Option.isSome_iff_exists.mp (List.find?_isSome.mpr ⟨row, hrow, hclaims⟩)
  have hclaims' := List.find?_some hfind
  simp only [claims, Bool.and_eq_true, decide_eq_true_eq] at hclaims'
  obtain rfl : row = row' := by
    have hdisjoint := deviceTable_disjoint row hrow row' (List.mem_of_find?_eq_some hfind)
    exact hdisjoint.resolve_right (by omega)
  exact ⟨_, by rw [resolve_eq, hfind, ← hslot]; rfl⟩

theorem InSlot.toNat_next (h : InSlot slot q (n + 1)) : (q + 1).toNat = q.toNat + 1 := by
  obtain ⟨row, hrow, -, -, hlast⟩ := h
  have hsmall := deviceTable_last row hrow
  exact (BitVec.toNat_add q 1).trans (Nat.mod_eq_of_lt (show q.toNat + 1 < 2 ^ 32 by omega))

theorem InSlot.next (h : InSlot slot q (n + 1)) : InSlot slot (q + 1) n := by
  have hq := h.toNat_next
  obtain ⟨row, hrow, hslot, hfirst, hlast⟩ := h
  exact ⟨row, hrow, hslot, by omega, by omega⟩

/-- The doubleword of an address in a slot that ignores stores lies in that slot. -/
theorem inSlot_of_resolve {p : PAddr} {off : Nat} (hs : slot ∈ ignoringSlots) (h : resolve p = some (slot, off))
    (hfirst : p.toNat / 8 * 8 ≤ q.toNat) (hlast : q.toNat + n ≤ p.toNat / 8 * 8 + 8) : InSlot slot q n := by
  obtain ⟨row, hrow, hslot, h1, h2, -⟩ := resolve_claims h
  obtain ⟨halign, halign'⟩ := ignoringSlots_aligned row hrow (hslot ▸ hs)
  exact ⟨row, hrow, hslot, by omega, by omega⟩

theorem InSlot.touches_false (h : InSlot slot q n) (hs : slot ∈ ignoringSlots) {e : Effect × Nat × Nat}
    (he : e ∈ effectTable) : touches q.toNat n e.2.1 e.2.2 = false := by
  obtain ⟨row, hrow, hslot, hfirst, hlast⟩ := h
  have := ignoringSlots_effects row hrow (hslot ▸ hs) e he
  rw [touches, ← Bool.decide_and, decide_eq_false_iff_not]
  omega

/-! ### Stores that are ignored -/

theorem writeByte_ignored {off : Nat} (hs : slot ∈ ignoringSlots) (h : resolve q = some (slot, off)) (b : Byte) :
    writeByte q b s = .ok s := by
  rw [writeByte, h]
  cases slot
  case cartRom | pifRom | rdramReg | dpcReg | dpsReg | miReg | aiReg | riReg => rfl
  all_goals exact absurd hs (by decide)

theorem storeBytes_ignored (hs : slot ∈ ignoringSlots) (bytes : List Byte) (h : InSlot slot q bytes.length) :
    storeBytes bytes q s = .ok s := by
  induction bytes generalizing q with
  | nil => rfl
  | cons b rest ih =>
    obtain ⟨off, hres⟩ := h.resolve
    rw [storeBytes, writeByte_ignored hs hres, res_ok_bind, ih h.next]

theorem busWrite_ignored (hs : slot ∈ ignoringSlots) (bytes : List Byte) (h : InSlot slot q bytes.length) :
    busWrite q bytes s = .ok s := by
  have heffects : touchedEffects q.toNat bytes.length = [] := by
    rw [touchedEffects, List.filter_eq_nil_iff.mpr fun e he => by rw [h.touches_false hs he]; decide, List.map_nil]
  rw [busWrite, storeBytes_ignored hs bytes h, res_ok_bind, fireEffects, heffects]
  rfl

/-- A read there does not take SP_SEMAPHORE, whose slot lies elsewhere (spec/61_platform_devices.md R566). -/
theorem takeSemaphore_outside (hs : slot ∈ ignoringSlots) (h : InSlot slot q n) (t : State) :
    takeSemaphore q.toNat n t = t := by
  have := h.touches_false hs (e := (.spSemaphore, 0x0404001C, 4)) (by decide)
  rw [takeSemaphore, this]
  rfl

/-! ### Loads of free values -/

theorem readByte_free {off : Nat} (hs : slot ∈ freeSlots) (h : resolve q = some (slot, off)) :
    ∃ b t, readByte q s = .ok (b, t) := by
  rw [readByte, h]
  cases slot
  case cartRom =>
    dsimp only
    split <;> exact ⟨_, _, rfl⟩
  case rdramReg | dpcReg | dpsReg | miReg | aiReg | riReg => exact ⟨_, _, rfl⟩
  all_goals exact absurd hs (by decide)

theorem readBytes_free (hs : slot ∈ freeSlots) (h : InSlot slot q n) : ∃ bytes t, readBytes n q s = .ok (bytes, t) := by
  induction n generalizing q s with
  | zero => exact ⟨[], s, rfl⟩
  | succ n ih =>
    obtain ⟨off, hres⟩ := h.resolve
    obtain ⟨b, u, hb⟩ := readByte_free (s := s) hs hres
    obtain ⟨rest, t, hrest⟩ := ih (s := u) h.next
    exact ⟨b :: rest, t, by simp only [readBytes, hb, hrest, res_ok_bind, res_pure]⟩

theorem numberOf_append (bytes : List Byte) (b : Byte) : numberOf (bytes ++ [b]) = numberOf bytes * 256 + b.toNat := by
  simp only [numberOf, List.foldl_append, List.foldl_cons, List.foldl_nil]

theorem numberOf_lt (bytes : List Byte) : numberOf bytes < 2 ^ (8 * bytes.length) := by
  induction bytes using List.reverseRecOn with
  | nil => decide
  | append_singleton bytes b ih =>
    have hb : b.toNat < 256 := b.isLt
    rw [numberOf_append, List.length_append, List.length_singleton, Nat.mul_add, Nat.pow_add]
    omega

/-- A bus read there gives some number of n bytes, and spends free values only. -/
theorem busRead_free (hs : slot ∈ freeSlots) (h : InSlot slot q n) (s : State) :
    ∃ bytes t, busRead q n s = .ok (bytes, t) ∧ SameButDraws s t ∧ numberOf bytes < 2 ^ (8 * n) := by
  obtain ⟨bytes, t, hread⟩ := readBytes_free (s := s) hs h
  obtain ⟨hframe, hlen⟩ := readBytes_frame _ _ _ _ _ hread
  refine ⟨bytes, t, ?_, hframe, hlen ▸ numberOf_lt bytes⟩
  simp only [busRead, hread, res_ok_bind, res_pure, takeSemaphore_outside (mem_ignoringSlots hs) h]

/-! ### Loads of the cartridge image -/

theorem readByte_image {off : Nat} (hres : resolve q = some (.cartRom, off)) (h : Memory.lookup q.toNat s.mem ≠ none) :
    readByte q s = .ok (memByte q.toNat s, s) := by
  obtain ⟨b, hb⟩ := Option.ne_none_iff_exists'.mp h
  simp only [readByte, hres, memByte, hb]

theorem bytesAt_succ (h : (q + 1).toNat = q.toNat + 1) :
    bytesAt q (n + 1) s = memByte q.toNat s :: bytesAt (q + 1) n s := by
  simp only [bytesAt, h, List.range_succ_eq_map, List.map_cons, List.map_map, Function.comp_def, Nat.add_zero,
    Nat.succ_eq_add_one, Nat.add_assoc, Nat.add_comm 1]

theorem readBytes_image (h : InSlot .cartRom q n) (hlisted : ∀ k < n, Memory.lookup (q.toNat + k) s.mem ≠ none) :
    readBytes n q s = .ok (bytesAt q n s, s) := by
  induction n generalizing q with
  | zero => rfl
  | succ n ih =>
    obtain ⟨off, hres⟩ := h.resolve
    have hnext := h.toNat_next
    have hrest := ih h.next fun k hk => by
      rw [hnext, Nat.add_assoc, Nat.add_comm 1]
      exact hlisted (k + 1) (Nat.succ_lt_succ hk)
    simp only [readBytes, readByte_image hres (hlisted 0 (Nat.succ_pos n)), hrest, res_ok_bind, res_pure,
      bytesAt_succ hnext]

theorem busRead_image (h : InSlot .cartRom q n) (hlisted : ∀ k < n, Memory.lookup (q.toNat + k) s.mem ≠ none) :
    busRead q n s = .ok (bytesAt q n s, s) := by
  simp only [busRead, readBytes_image h hlisted, res_ok_bind, res_pure, takeSemaphore_outside (by decide) h]

end

end Sys2Proof.Machine
end

section
/-! Proofs of the family 20_memory: loads and stores of the read-only images and the unmodelled registers
(spec/20_memory.md R152; spec/61_platform_devices.md R570). -/

namespace Sys2Proof.Machine

/-! ### The merges of the partial loads, as numbers -/

/-- Bit by bit: the number read above the kept low bits (spec/40_load_store.md R208, R210). -/
theorem merge_left (w k v old : Nat) :
    (BitVec.ofNat w v <<< k) ||| (BitVec.ofNat w old &&& BitVec.ofNat w (2 ^ k - 1)) =
      BitVec.ofNat w (v * 2 ^ k + old % 2 ^ k) := by
  apply BitVec.eq_of_getLsbD_eq
  intro j hj
  simp only [BitVec.getLsbD_or, BitVec.getLsbD_shiftLeft, BitVec.getLsbD_and, BitVec.getLsbD_ofNat, Nat.mul_comm v,
    Nat.testBit_two_pow_mul_add _ (Nat.mod_lt old (Nat.two_pow_pos k)), Nat.testBit_mod_two_pow,
    Nat.testBit_two_pow_sub_one, hj]
  by_cases h : j < k
  · simp [h]
  · simp [h, show j - k < w by omega]

/-- Bit by bit: the number read below the kept high bits (spec/40_load_store.md R209, R211). -/
theorem merge_right (w : Nat) {k v : Nat} (old : Nat) (hv : v < 2 ^ k) :
    (BitVec.ofNat w old &&& ~~~(BitVec.ofNat w (2 ^ k - 1))) ||| BitVec.ofNat w v =
      BitVec.ofNat w (old / 2 ^ k * 2 ^ k + v) := by
  apply BitVec.eq_of_getLsbD_eq
  intro j hj
  simp only [BitVec.getLsbD_or, BitVec.getLsbD_not, BitVec.getLsbD_and, BitVec.getLsbD_ofNat,
    Nat.mul_comm (old / 2 ^ k), Nat.testBit_two_pow_mul_add _ hv, Nat.testBit_div_two_pow,
    Nat.testBit_two_pow_sub_one, hj]
  by_cases h : j < k
  · simp [h]
  · have hhigh : v.testBit j = false :=
      Nat.testBit_lt_two_pow (hv.trans_le (Nat.pow_le_pow_right (by decide) (Nat.le_of_not_lt h)))
    simp [h, hhigh, show j - k + k = j by omega]

theorem lowWord_ofNat (v : Nat) : lowWord (BitVec.ofNat 64 v) = BitVec.ofNat 32 v :=
  BitVec.setWidth_ofNat_of_le (by decide) v

theorem lowWord_eq (x : Word) : lowWord x = BitVec.ofNat 32 x.toNat := (BitVec.ofNat_toNat ..).symm

theorem mergeWordLeft_eq (b v : Nat) (old : Word) : mergeWordLeft b (BitVec.ofNat 64 v) old =
    sextWord (BitVec.ofNat 32 (v * 2 ^ (8 * b) + old.toNat % 2 ^ (8 * b))) := by
  rw [mergeWordLeft, ← merge_left, ← lowWord_ofNat v, ← lowWord_eq old, lowBytesMask, lowWord_ofNat (_ - 1)]
  congr 2
  exact BitVec.setWidth_shiftLeft_of_le (by decide)

theorem mergeWordRight_eq {n v : Nat} (hv : v < 2 ^ (8 * n)) (old : Word) :
    mergeWordRight n (BitVec.ofNat 64 v) old =
      sextWord (BitVec.ofNat 32 (old.toNat / 2 ^ (8 * n) * 2 ^ (8 * n) + v)) := by
  rw [mergeWordRight, ← merge_right 32 _ hv, lowBytesMask, lowWord_ofNat, lowWord_ofNat, lowWord_eq]

theorem mergeDoubleLeft_eq (b v : Nat) (old : Word) : mergeDoubleLeft b (BitVec.ofNat 64 v) old =
    BitVec.ofNat 64 (v * 2 ^ (8 * b) + old.toNat % 2 ^ (8 * b)) := by
  rw [mergeDoubleLeft, ← merge_left, BitVec.ofNat_toNat, BitVec.setWidth_eq, lowBytesMask]

theorem mergeDoubleRight_eq {n v : Nat} (hv : v < 2 ^ (8 * n)) (old : Word) :
    mergeDoubleRight n (BitVec.ofNat 64 v) old = BitVec.ofNat 64 (old.toNat / 2 ^ (8 * n) * 2 ^ (8 * n) + v) := by
  rw [mergeDoubleRight, ← merge_right 64 _ hv, BitVec.ofNat_toNat, BitVec.setWidth_eq, lowBytesMask]

/-! ### What an instruction tests first -/

section
variable {i : Instr} {s : State} {r : Res State} {X : Prop} {f : Reg}

theorem answers_of {Q : State → Prop} {r : Result} (hexec : exec i s = r) (h : ∃ t, r = .next t ∧ Q t) :
    Answers i s Q := by
  rwa [Answers, hexec]

theorem if64_intro (hexec : exec i s = complete s (require64 s >>= fun _ => r)) (h : exec i s = complete s r → X) :
    If64 i s X := by
  refine ⟨fun hpermits => h (by rw [hexec, hpermits.require64]; rfl), fun ⟨m, hmode, hops⟩ => ?_⟩
  rw [require64_error s m hmode hops] at hexec
  exact ⟨_, hexec, enters_takeException _ s⟩

theorem ifCop1_intro (hexec : exec i s = complete s (requireCop1 s >>= fun _ => r)) (h : exec i s = complete s r → X) :
    IfCop1 i s X := by
  refine ⟨fun husable => h (by rw [hexec, requireCop1_ok s husable]; rfl), fun hunusable => ?_⟩
  rw [requireCop1_error s hunusable] at hexec
  exact ⟨_, hexec, enters_takeException _ s⟩

theorem ifFloat_intro (hexec : exec i s = complete s (requireFloat s f >>= fun _ => r))
    (h : exec i s = complete s r → X) : IfFloat [f] i s X := by
  refine ⟨fun hvalid => h (by rw [hexec, requireFloat_ok (hvalid f List.mem_cons_self)]; rfl),
    fun ⟨g, hg, hfr, hodd⟩ => ?_⟩
  obtain rfl := List.mem_singleton.mp hg
  rw [hexec, requireFloat_error hfr hodd]
  rfl

end

/-! ### The bytes of an access -/

theorem toNat_sub_ofNat {p : PAddr} {k : Nat} (h : k ≤ p.toNat) : (p - BitVec.ofNat 32 k).toNat = p.toNat - k := by
  have hk : (BitVec.ofNat 32 k).toNat = k := by
    rw [BitVec.toNat_ofNat]
    omega
  rw [BitVec.toNat_sub_of_le (by rwa [BitVec.le_def, hk]), hk]

section
variable {store : Bool} {slot : Slot} {p : PAddr} {off n align back : Nat} {va : Word} {s u : State} {base rt : Reg}
  {offset : BitVec 16} {value : Nat → Word} {extend : Word → Word}

theorem inSlot_aligned (hs : slot ∈ ignoringSlots) (hres : resolve p = some (slot, off))
    (hp : dataAddress store n va s = .ok p) (hn : n ∈ [1, 2, 4, 8]) : InSlot slot (p - BitVec.ofNat 32 0) n := by
  have halign := (dataAddress_ok hp).1
  have hoffset := dataAddress_offset hp
  rw [BitVec.sub_zero]
  refine inSlot_of_resolve hs hres (by omega) ?_
  simp only [List.mem_cons, List.not_mem_nil, or_false] at hn
  rcases hn with rfl | rfl | rfl | rfl <;> omega

/-- LWL and LDL: the bytes from the address to the end of its word or doubleword. -/
theorem inSlot_left (hs : slot ∈ ignoringSlots) (hres : resolve p = some (slot, off))
    (hp : dataAddress store 1 va s = .ok p) (hn : n = 4 ∨ n = 8) :
    InSlot slot (p - BitVec.ofNat 32 0) (n - va.toNat % n) := by
  have hoffset := dataAddress_offset hp
  rw [BitVec.sub_zero]
  refine inSlot_of_resolve hs hres (by omega) ?_
  rcases hn with rfl | rfl <;> omega

/-- LWR and LDR: the bytes from the beginning of its word or doubleword to the address. -/
theorem inSlot_right (hs : slot ∈ ignoringSlots) (hres : resolve p = some (slot, off))
    (hp : dataAddress store 1 va s = .ok p) (hn : n = 4 ∨ n = 8) :
    InSlot slot (p - BitVec.ofNat 32 (va.toNat % n)) (va.toNat % n + 1) := by
  have hoffset := dataAddress_offset hp
  have hback : p.toNat / 8 * 8 + va.toNat % n ≤ p.toNat := by rcases hn with rfl | rfl <;> omega
  have hfirst := toNat_sub_ofNat (le_of_add_le_right hback)
  exact inSlot_of_resolve hs hres (by omega) (by omega)

/-! ### Stores -/

theorem storeAligned_ignored (hs : slot ∈ ignoringSlots) (hres : resolve p = some (slot, off))
    (hp : dataAddress true n (effectiveAddress (readGpr s base) offset) s = .ok p) (hn : n ∈ [1, 2, 4, 8]) :
    storeAligned n base rt offset s = .ok s := by
  rw [storeAligned, storeValue, hp, res_ok_bind]
  exact busWrite_ignored hs _ (by rw [length_bytesOf]; exact inSlot_aligned hs hres hp hn)

theorem answers_ignored {i : Instr} {r : Res State} (hexec : exec i s = complete s r) (h : r = .ok s) :
    Answers i s (OnlyControl (nextPc s) none s) :=
  answers_of hexec ⟨_, by rw [h]; rfl, onlyControl_retire s⟩

/-! ### Loads of free values -/

theorem SameButDraws.eq (h : SameButDraws s u) : u = { s with draws := u.draws } :=
  congrArg (fun x : State => { x with draws := u.draws }) h

theorem loadBytes_free (hs : slot ∈ freeSlots) (hp : dataAddress false align va s = .ok p)
    (h : InSlot slot (p - BitVec.ofNat 32 back) n) :
    ∃ v < 2 ^ (8 * n), ∃ u, SameButDraws s u ∧ loadBytes align back n va s = .ok (BitVec.ofNat 64 v, u) := by
  obtain ⟨bytes, u, hread, hframe, hlt⟩ := busRead_free hs h s
  exact ⟨_, hlt, u, hframe, by simp only [loadBytes, hp, hread, res_ok_bind, res_pure, wordOf]⟩

/-- The result r leaves in rt what `value` makes of some number of n bytes, and nothing else of u changes but the
position in the free values. -/
def Reads (rt : Reg) (n : Nat) (value : Nat → Word) (u : State) (r : Result) : Prop :=
  ∃ t, r = .next t ∧ ∃ v < 2 ^ (8 * n), OnlyGpr rt (value v) { u with draws := t.draws } t

theorem reads_writeGpr (hu : SameButDraws s u) {v : Nat} (hv : v < 2 ^ (8 * n)) :
    Reads rt n value s (complete s (.ok (writeGpr u rt (value v)))) := by
  refine ⟨_, rfl, v, hv, ?_⟩
  rw [retire_draws, writeGpr_draws, ← hu.eq]
  exact onlyGpr_writeGpr u rt (value v)

theorem reads_loadAligned (hs : slot ∈ freeSlots) (hres : resolve p = some (slot, off))
    (hp : dataAddress false n (effectiveAddress (readGpr s base) offset) s = .ok p) (hn : n ∈ [1, 2, 4, 8])
    (hvalue : ∀ v, extend (BitVec.ofNat 64 v) = value v) :
    Reads rt n value s (complete s (loadAligned n extend base rt offset s)) := by
  obtain ⟨v, hv, u, hu, hload⟩ := loadBytes_free hs hp (inSlot_aligned (mem_ignoringSlots hs) hres hp hn)
  simp only [loadAligned, hload, res_ok_bind, res_pure, hvalue]
  exact reads_writeGpr hu hv

theorem reads_loadPartial {merge : Word → Word → Word} (hs : slot ∈ freeSlots) (hp : dataAddress false 1 va s = .ok p)
    (hslot : InSlot slot (p - BitVec.ofNat 32 back) n)
    (hvalue : ∀ v < 2 ^ (8 * n), merge (BitVec.ofNat 64 v) (readGpr s rt) = value v) :
    Reads rt n value s (complete s (loadPartial back n merge va rt s)) := by
  obtain ⟨v, hv, u, hu, hload⟩ := loadBytes_free hs hp hslot
  simp only [loadPartial, hload, res_ok_bind, res_pure, hvalue v hv]
  exact reads_writeGpr hu hv

theorem setLinked_writeGpr (p : PAddr) (s : State) (r : Reg) (v : Word) :
    setLinked p (writeGpr s r v) = writeGpr (setLinked p s) r v := by
  unfold writeGpr
  split <;> rfl

theorem setLinked_eq (p : PAddr) (s : State) : setLinked p s =
    { s with llbit := true, cp0 := { s.cp0 with llAddr := BitVec.ofNat 32 (p.toNat / 16) } } := by
  have hshift : p >>> 4 = BitVec.ofNat 32 (p.toNat / 16) := by
    apply BitVec.eq_of_toNat_eq
    rw [BitVec.toNat_ushiftRight, Nat.shiftRight_eq_div_pow, BitVec.toNat_ofNat]
    omega
  rw [setLinked, hshift]

theorem reads_loadLinked (hs : slot ∈ freeSlots) (hres : resolve p = some (slot, off))
    (hp : dataAddress false n (effectiveAddress (readGpr s base) offset) s = .ok p) (hn : n ∈ [1, 2, 4, 8])
    (hvalue : ∀ v, extend (BitVec.ofNat 64 v) = value v) :
    Reads rt n value { s with llbit := true, cp0 := { s.cp0 with llAddr := BitVec.ofNat 32 (p.toNat / 16) } }
      (complete s (loadLinked n extend base rt offset s)) := by
  obtain ⟨v, hv, u, hu, hload⟩ := loadBytes_free hs hp (inSlot_aligned (mem_ignoringSlots hs) hres hp hn)
  simp only [loadLinked, hp, loadAligned, hload, res_ok_bind, res_pure, hvalue, setLinked_writeGpr, ← setLinked_eq]
  have hlinked : SameButDraws (setLinked p s) (setLinked p u) := congrArg (setLinked p) hu
  exact reads_writeGpr hlinked hv

theorem F32Written.of_draws {v : Word32} {t : State} {d : Nat} (h : F32Written rt v { s with draws := d } t) :
    F32Written rt v s t where
  value := h.value
  others j hj := { h.others j hj with }
  lowKept hfr hodd := { h.lowKept hfr hodd with }
  highKept hfr hodd := { h.highKept hfr hodd with }

theorem onlyF32_of_draws {v : Word32} {t : State} (hu : SameButDraws s u) (h : OnlyF32 rt v u t) :
    OnlyF32 rt v s t := by
  have heq := hu.eq
  generalize u.draws = d at heq
  subst heq
  exact ⟨h.cells.of_draws, h.pc, h.delay, h.memory, congrArg (fun x : State => { x with draws := s.draws }) h.rest⟩

theorem onlyCell_of_draws {v : Word} (hu : SameButDraws s u) :
    OnlyCell rt v { s with draws := (retire (writeCell u rt v)).draws } (retire (writeCell u rt v)) := by
  rw [retire_draws, writeCell_draws, ← hu.eq]
  exact onlyCell_writeCell u rt v

theorem answers_load {i : Instr} {f : Word × State → Res State} {Q : State → Prop}
    (hexec : exec i s = complete s (loadBytes align back n va s >>= f)) (hs : slot ∈ freeSlots)
    (hp : dataAddress false align va s = .ok p) (hslot : InSlot slot (p - BitVec.ofNat 32 back) n)
    (h : ∀ v u, SameButDraws s u → ∃ t, complete s (f (BitVec.ofNat 64 v, u)) = .next t ∧ Q t) : Answers i s Q := by
  obtain ⟨v, -, u, hu, hload⟩ := loadBytes_free hs hp hslot
  rw [hload] at hexec
  exact answers_of hexec (h v u hu)

/-! ### Loads of the cartridge image -/

theorem loadAligned_image (hres : resolve p = some (.cartRom, off))
    (hp : dataAddress false n (effectiveAddress (readGpr s base) offset) s = .ok p) (hn : n ∈ [1, 2, 4, 8])
    (hlisted : ∀ k < n, Memory.lookup (p.toNat + k) s.mem ≠ none) (extend : Word → Word) :
    loadAligned n extend base rt offset s = .ok (writeGpr s rt (extend (numberAt p n s))) := by
  have hslot := inSlot_aligned (by decide) hres hp hn
  rw [BitVec.sub_zero] at hslot
  have hread := busRead_image hslot hlisted
  simp only [loadAligned, loadBytes, hp, BitVec.sub_zero, hread, res_ok_bind, res_pure, numberAt]

theorem answers_image {i : Instr} {r : Res State} {v : Word} (hexec : exec i s = complete s r)
    (h : r = .ok (writeGpr s rt v)) : Answers i s (OnlyGpr rt v s) :=
  answers_of hexec ⟨_, by rw [h]; rfl, onlyGpr_writeGpr s rt v⟩

end

/-- Settles O31: the bytes of an access lie in one doubleword and so in one row of the device table; there a write keeps
nothing and fires no side effect, and a read gives bytes of the image or free values. -/
theorem silentDevices : Obligations.SilentDevices := by
  unfold Obligations.SilentDevices
  intro s base rt offset p slot off va hres
  refine ⟨fun hs => ?stores, fun hs => ?loads, fun hs => ?image⟩
  case stores =>
    exact ⟨fun hp => answers_ignored rfl (storeAligned_ignored hs hres hp (by decide)),
      fun hp => answers_ignored rfl (storeAligned_ignored hs hres hp (by decide)),
      fun hp => answers_ignored rfl (storeAligned_ignored hs hres hp (by decide)),
      fun hp => if64_intro rfl fun hexec => answers_ignored hexec (storeAligned_ignored hs hres hp (by decide))⟩
  case loads =>
    intro b c old linked reads
    have hs' := mem_ignoringSlots hs
    refine ⟨fun hp => ⟨?lb, ?lbu, ?lwl, ?lwr, ?ldl, ?ldr⟩, fun hp => ⟨?lh, ?lhu⟩,
      fun hp => ⟨?lw, ?lwu, ?ll, ?lwc1⟩, fun hp => ⟨?ld, ?lld, ?ldc1⟩⟩
    case lb | lh =>
      exact reads_loadAligned hs hres hp (by decide) fun v => congrArg _ (BitVec.setWidth_ofNat_of_le (by decide) v)
    case lw => exact reads_loadAligned hs hres hp (by decide) fun v => congrArg _ (lowWord_ofNat v)
    case lbu | lhu => exact reads_loadAligned hs hres hp (by decide) fun v => rfl
    case lwu | ld =>
      exact if64_intro rfl fun hexec => answers_of hexec (reads_loadAligned hs hres hp (by decide) fun v => rfl)
    case lwl => exact reads_loadPartial hs hp (inSlot_left hs' hres hp (.inl rfl)) fun v _ => mergeWordLeft_eq b v _
    case lwr => exact reads_loadPartial hs hp (inSlot_right hs' hres hp (.inl rfl)) fun v hv => mergeWordRight_eq hv _
    case ldl =>
      exact if64_intro rfl fun hexec => answers_of hexec
        (reads_loadPartial hs hp (inSlot_left hs' hres hp (.inr rfl)) fun v _ => mergeDoubleLeft_eq c v _)
    case ldr =>
      exact if64_intro rfl fun hexec => answers_of hexec
        (reads_loadPartial hs hp (inSlot_right hs' hres hp (.inr rfl)) fun v hv => mergeDoubleRight_eq hv _)
    case ll => exact reads_loadLinked hs hres hp (by decide) fun v => congrArg _ (lowWord_ofNat v)
    case lld =>
      exact if64_intro rfl fun hexec => answers_of hexec (reads_loadLinked hs hres hp (by decide) fun v => rfl)
    case lwc1 =>
      exact ifCop1_intro rfl fun hexec =>
        answers_load hexec hs hp (inSlot_aligned hs' hres hp (by decide)) fun v u hu =>
          ⟨_, rfl, _, onlyF32_of_draws hu (onlyF32_writeF32 u rt _)⟩
    case ldc1 =>
      exact ifCop1_intro rfl fun hexec => ifFloat_intro hexec fun hexec =>
        answers_load hexec hs hp (inSlot_aligned hs' hres hp (by decide)) fun v u hu =>
          ⟨_, rfl, _, onlyCell_of_draws hu⟩
  case image =>
    subst hs
    intro inImage
    refine ⟨fun hp hlisted => ?byte, fun hp hlisted => ?half, fun hp hlisted => ?word, fun hp hlisted => ?double⟩
    all_goals have hload := loadAligned_image (rt := rt) hres hp (by decide) hlisted
    case byte | half => exact ⟨answers_image rfl (hload _), answers_image rfl (hload _)⟩
    case word =>
      exact ⟨answers_image rfl (hload _), if64_intro rfl fun hexec => answers_image hexec (hload _)⟩
    case double => exact if64_intro rfl fun hexec => answers_image hexec (hload _)

end Sys2Proof.Machine
end

section
/-! Proofs of the family 30_encoding: words and their fields, and what the decoder answers (spec/30_encoding.md R170 to
R183). -/

namespace Sys2Proof

/-! ### A word is made of its fields -/

section
open BitVec (extractLsb'_append_extractLsb'_eq_extractLsb' extractLsb'_eq_self)

theorem append_bytes (w : Word32) :
    w.extractLsb' 24 8 ++ w.extractLsb' 16 8 ++ w.extractLsb' 8 8 ++ w.extractLsb' 0 8 = w := by
  simp only [extractLsb'_append_extractLsb'_eq_extractLsb']
  exact extractLsb'_eq_self

theorem wordI_fields (w : Word32) : wordI (opF w) (rsF w) (rtF w) (immF w) = w := by
  simp only [wordI, opF, rsF, rtF, immF, extractLsb'_append_extractLsb'_eq_extractLsb']
  exact extractLsb'_eq_self

theorem wordR_fields (w : Word32) : wordR (opF w) (rsF w) (rtF w) (rdF w) (saF w) (fnF w) = w := by
  simp only [wordR, opF, rsF, rtF, rdF, saF, fnF, extractLsb'_append_extractLsb'_eq_extractLsb']
  exact extractLsb'_eq_self

theorem wordJ_fields (w : Word32) : wordJ (opF w) (targetF w) = w := by
  simp only [wordJ, opF, targetF, extractLsb'_append_extractLsb'_eq_extractLsb']
  exact extractLsb'_eq_self

theorem wordCode_fields (w : Word32) : wordCode (opF w) (codeF w) (fnF w) = w := by
  simp only [wordCode, opF, codeF, fnF, extractLsb'_append_extractLsb'_eq_extractLsb']
  exact extractLsb'_eq_self

theorem wordTrap_fields (w : Word32) : wordTrap (opF w) (rsF w) (rtF w) (trapCodeF w) (fnF w) = w := by
  simp only [wordTrap, opF, rsF, rtF, trapCodeF, fnF, extractLsb'_append_extractLsb'_eq_extractLsb']
  exact extractLsb'_eq_self

theorem rtF_eq_append (w : Word32) : rtF w = condHighF w ++ condLowF w := by
  simp only [rtF, condHighF, condLowF, extractLsb'_append_extractLsb'_eq_extractLsb']

end

section
variable {w : Word32} {op fn : BitVec 6} {rs rt rd sa : BitVec 5}

@[simp] theorem wordI_eq_iff {imm : BitVec 16} :
    wordI op rs rt imm = w ↔ opF w = op ∧ rsF w = rs ∧ rtF w = rt ∧ immF w = imm := by
  constructor
  · rintro rfl
    simp
  · rintro ⟨rfl, rfl, rfl, rfl⟩
    exact wordI_fields w

@[simp] theorem wordR_eq_iff : wordR op rs rt rd sa fn = w ↔
    opF w = op ∧ rsF w = rs ∧ rtF w = rt ∧ rdF w = rd ∧ saF w = sa ∧ fnF w = fn := by
  constructor
  · rintro rfl
    simp
  · rintro ⟨rfl, rfl, rfl, rfl, rfl, rfl⟩
    exact wordR_fields w

@[simp] theorem wordJ_eq_iff {target : BitVec 26} : wordJ op target = w ↔ opF w = op ∧ targetF w = target := by
  constructor
  · rintro rfl
    simp
  · rintro ⟨rfl, rfl⟩
    exact wordJ_fields w

@[simp] theorem wordCode_eq_iff {code : BitVec 20} :
    wordCode op code fn = w ↔ opF w = op ∧ codeF w = code ∧ fnF w = fn := by
  constructor
  · rintro rfl
    simp
  · rintro ⟨rfl, rfl, rfl⟩
    exact wordCode_fields w

@[simp] theorem wordTrap_eq_iff {code : BitVec 10} : wordTrap op rs rt code fn = w ↔
    opF w = op ∧ rsF w = rs ∧ rtF w = rt ∧ trapCodeF w = code ∧ fnF w = fn := by
  constructor
  · rintro rfl
    simp
  · rintro ⟨rfl, rfl, rfl, rfl, rfl⟩
    exact wordTrap_fields w

/-- In the CO format the zero bits 24:6 leave bit 25 alone of the four fields (spec/30_encoding.md R178). -/
theorem fields_of_coZeroF (hzero : coZeroF w = 0) (hco : 16 ≤ (rsF w).toNat) :
    rsF w = 16 ∧ rtF w = 0 ∧ rdF w = 0 ∧ saF w = 0 := by
  simp only [coZeroF, rsF, rtF, rdF, saF, BitVec.toNat_eq, BitVec.extractLsb'_toNat, BitVec.toNat_ofNat,
    BitVec.ofNat_eq_ofNat, Nat.shiftRight_eq_div_pow] at hzero hco ⊢
  omega

/-- In the FB format the zero bits 20:18 leave the nd and tf bits of the rt field (spec/30_encoding.md R179). -/
theorem rtF_of_condHighF (hzero : condHighF w = 0) : (rtF w).toNat = (condLowF w).toNat := by
  rw [rtF_eq_append, hzero, BitVec.toNat_append]
  simp

end

/-! ### An instruction is read back from its word -/

/-- The lemmas of the family RoundTrip, one for each constructor in order. -/
theorem decode_encode (i : Instr) : decode (encode i) = .instr i := by
  open Laws.RoundTrip in
  exact i.rec (motive := Statement)
    lb lbu lh lhu lw lwu ld lwl lwr ldl ldr sb sh sw sd swl swr sdl sdr ll lld sc scd addi addiu slti sltiu andi ori
    xori daddi daddiu lui add addu sub subu Laws.RoundTrip.and Laws.RoundTrip.or Laws.RoundTrip.xor nor slt sltu
    dadd daddu dsub dsubu sllv srlv srav dsllv dsrlv dsrav sll srl sra dsll dsrl dsra dsll32 dsrl32 dsra32 mult
    multu dmult dmultu div divu ddiv ddivu mfhi mthi mflo mtlo j jal jr jalr beq bne beql bnel blez bgtz blezl bgtzl
    bltz bgez bltzal bgezal bltzall bgezall bltzl bgezl tge tgeu tlt tltu teq tne tgei tgeiu tlti tltiu teqi tnei
    syscall brk sync cache mfc0 mtc0 dmfc0 dmtc0 tlbr tlbwi tlbwr tlbp eret lwc1 ldc1 swc1 sdc1 mfc1 dmfc1 cfc1 ctc1
    mtc1 dmtc1 bc1f bc1t bc1fl bc1tl addS addD subS subD mulS mulD divS divD sqrtS sqrtD absS absD movS movD negS
    negD roundLS roundLD truncLS truncLD ceilLS ceilLD floorLS floorLD roundWS roundWD truncWS truncWD ceilWS ceilWD
    floorWS floorWD cvtSD cvtSW cvtSL cvtDS cvtDW cvtDL cvtWS cvtWD cvtLS cvtLD cFS cUnS cEqS cUeqS cOltS cUltS
    cOleS cUleS cSfS cNgleS cSeqS cNglS cLtS cNgeS cLeS cNgtS cFD cUnD cEqD cUeqD cOltD cUltD cOleD cUleD cSfD
    cNgleD cSeqD cNglD cLtD cNgeD cLeD cNgtD

theorem decodeTableWord_encode (i : Instr) : decodeTableWord 32 (encode i).toNat = some i := by
  have hword : BitVec.ofNat 32 ((encode i).toNat % 2 ^ 32) = encode i := by
    rw [Nat.mod_eq_of_lt (encode i).isLt, BitVec.ofNat_toNat, BitVec.setWidth_eq]
  simp only [decodeTableWord, decodeBytes, hword, append_bytes, decode_encode]

/-! ### What the decoder's answer says of the word -/

/-- What an answer of the decoder says of its word: an instruction is the one whose encoding the word is; a row with a
should-be-zero bit set has the opcode of the word. -/
def ReadsAs (w : Word32) : Decoded → Prop
  | .instr i => encode i = w
  | .shouldBeZero i => opF (encode i) = opF w
  | .reserved | .reservedCop _ | .cop2 | .fpUnimplemented => True

section
open BitVec (toNat_inj)

variable {w : Word32} {i : Instr} {zero : Bool}

@[simp] theorem readsAs_instr : ReadsAs w (.instr i) ↔ encode i = w := Iff.rfl

@[simp] theorem readsAs_zeroed :
    ReadsAs w (zeroed zero i) ↔ if zero then encode i = w else opF (encode i) = opF w := by
  cases zero <;> rfl

theorem readsAs_decodeSpecial (hop : (opF w).toNat = 0) : ReadsAs w (decodeSpecial w) := by
  unfold decodeSpecial
  split
  case h_53 => trivial
  all_goals
    rename_i hfn
    simp +contextual [encode, ← toNat_inj (n := 5), ← toNat_inj (n := 6), hop, hfn]

theorem readsAs_decodeRegimm (hop : (opF w).toNat = 1) : ReadsAs w (decodeRegimm w) := by
  unfold decodeRegimm
  split
  case h_15 => trivial
  all_goals
    rename_i hrt
    simp [encode, ← toNat_inj (n := 5), ← toNat_inj (n := 6), hop, hrt]

theorem readsAs_decodeCo (hop : (opF w).toNat = 16) (hco : 16 ≤ (rsF w).toNat) : ReadsAs w (decodeCo w) := by
  have hfields := fun hzero => fields_of_coZeroF (w := w) hzero hco
  unfold decodeCo
  split
  case h_6 => trivial
  all_goals
    rename_i hfn
    simp +contextual [encode, hfields, ← toNat_inj (n := 6), hop, hfn]

theorem readsAs_decodeCop0 (hop : (opF w).toNat = 16) : ReadsAs w (decodeCop0 w) := by
  unfold decodeCop0
  split
  case isTrue hco => exact readsAs_decodeCo hop hco
  case isFalse =>
    split
    case h_5 => trivial
    all_goals
      rename_i hrs
      simp +contextual [encode, ← toNat_inj (n := 5), ← toNat_inj (n := 6), hop, hrs]

theorem readsAs_decodeBc1 (hop : (opF w).toNat = 17) (hrs : (rsF w).toNat = 8) : ReadsAs w (decodeBc1 w) := by
  have hrt := fun hzero => rtF_of_condHighF (w := w) hzero
  unfold decodeBc1
  split
  case h_4 h0 h1 h2 =>
    have hlow : (condLowF w).toNat = 3 := by
      have hlt := (condLowF w).isLt
      simp only [imp_false] at h0 h1 h2
      omega
    simp +contextual [encode, ← toNat_inj (n := 5), ← toNat_inj (n := 6), hop, hrs, hrt, hlow]
  all_goals
    rename_i hlow
    simp +contextual [encode, ← toNat_inj (n := 5), ← toNat_inj (n := 6), hop, hrs, hrt, hlow]

theorem readsAs_decodeFpS (hop : (opF w).toNat = 17) (hrs : (rsF w).toNat = 16) : ReadsAs w (decodeFpS w) := by
  unfold decodeFpS
  split
  case h_36 => trivial
  all_goals
    rename_i hfn
    simp +contextual [encode, ← toNat_inj (n := 5), ← toNat_inj (n := 6), hop, hrs, hfn]

theorem readsAs_decodeFpD (hop : (opF w).toNat = 17) (hrs : (rsF w).toNat = 17) : ReadsAs w (decodeFpD w) := by
  unfold decodeFpD
  split
  case h_36 => trivial
  all_goals
    rename_i hfn
    simp +contextual [encode, ← toNat_inj (n := 5), ← toNat_inj (n := 6), hop, hrs, hfn]

theorem readsAs_decodeFpW (hop : (opF w).toNat = 17) (hrs : (rsF w).toNat = 20) : ReadsAs w (decodeFpW w) := by
  unfold decodeFpW
  split
  case h_3 => trivial
  all_goals
    rename_i hfn
    simp +contextual [encode, ← toNat_inj (n := 5), ← toNat_inj (n := 6), hop, hrs, hfn]

theorem readsAs_decodeFpL (hop : (opF w).toNat = 17) (hrs : (rsF w).toNat = 21) : ReadsAs w (decodeFpL w) := by
  unfold decodeFpL
  split
  case h_3 => trivial
  all_goals
    rename_i hfn
    simp +contextual [encode, ← toNat_inj (n := 5), ← toNat_inj (n := 6), hop, hrs, hfn]

theorem readsAs_decodeCop1 (hop : (opF w).toNat = 17) : ReadsAs w (decodeCop1 w) := by
  unfold decodeCop1
  split
  case h_7 hrs => exact readsAs_decodeBc1 hop hrs
  case h_8 hrs => exact readsAs_decodeFpS hop hrs
  case h_9 hrs => exact readsAs_decodeFpD hop hrs
  case h_10 hrs => exact readsAs_decodeFpW hop hrs
  case h_11 hrs => exact readsAs_decodeFpL hop hrs
  case h_12 => trivial
  all_goals
    rename_i hrs
    simp +contextual [encode, ← toNat_inj (n := 5), ← toNat_inj (n := 6), hop, hrs]

/-- Row by row of the decoder: the fields it reads and the zero bits it tests make up the whole word. -/
theorem readsAs_decode (w : Word32) : ReadsAs w (decode w) := by
  unfold decode
  split
  case h_1 hop => exact readsAs_decodeSpecial hop
  case h_2 hop => exact readsAs_decodeRegimm hop
  case h_17 hop => exact readsAs_decodeCop0 hop
  case h_18 hop => exact readsAs_decodeCop1 hop
  case h_19 | h_54 => trivial
  all_goals
    rename_i hop
    simp +contextual [encode, ← toNat_inj (n := 5), ← toNat_inj (n := 6), hop]

theorem encode_of_decode (h : decode w = .instr i) : encode i = w := by
  have hreads := readsAs_decode w
  rwa [h] at hreads

theorem opF_encode_of_shouldBeZero (h : decode w = .shouldBeZero i) : opF (encode i) = opF w := by
  have hreads := readsAs_decode w
  rwa [h] at hreads

end

/-! ### Words outside the opcode table -/

section
variable {w : Word32}

theorem decode_reserved (h : (opF w).toNat ∈ [19, 28, 29, 30, 31, 51, 59, 50, 54, 58, 62]) :
    decode w = .reserved := by
  unfold decode
  split
  case h_54 => rfl
  all_goals
    rename_i hop
    simp [hop] at h

theorem decode_reserved_special (hop : (opF w).toNat = 0)
    (h : (fnF w).toNat ∈ [1, 5, 10, 11, 14, 21, 40, 41, 53, 55, 57, 61]) : decode w = .reserved := by
  simp only [decode, hop]
  unfold decodeSpecial
  split
  case h_53 => rfl
  all_goals
    rename_i hfn
    simp [hfn] at h

theorem decode_reserved_regimm (hop : (opF w).toNat = 1)
    (h : (rtF w).toNat ∈ [4, 5, 6, 7, 13, 15] ∨ 20 ≤ (rtF w).toNat) : decode w = .reserved := by
  simp only [decode, hop]
  unfold decodeRegimm
  split
  case h_15 => rfl
  all_goals
    rename_i hrt
    simp [hrt] at h

theorem decode_reserved_cop0 (hop : (opF w).toNat = 16)
    (h : (rsF w).toNat ∈ [2, 3, 6, 7, 8, 9, 10, 11, 12, 13, 14, 15] ∨
      (16 ≤ (rsF w).toNat ∧ (fnF w).toNat ∉ [1, 2, 6, 8, 24])) : decode w = .reservedCop 0 := by
  simp only [decode, hop]
  unfold decodeCop0
  split
  case isTrue hco =>
    have hfn : (fnF w).toNat ∉ [1, 2, 6, 8, 24] := h.elim (fun hmem => by simp at hmem; omega) And.right
    unfold decodeCo
    split
    case h_6 => rfl
    all_goals
      rename_i heq
      simp [heq] at hfn
  case isFalse hco =>
    split
    case h_5 => rfl
    all_goals
      rename_i hrs
      simp [hrs] at h

theorem decode_reserved_cop1 (hop : (opF w).toNat = 17)
    (h : (rsF w).toNat ∈ [3, 7, 9, 10, 11, 12, 13, 14, 15, 18, 19] ∨ 22 ≤ (rsF w).toNat) :
    decode w = .reservedCop 1 := by
  simp only [decode, hop]
  unfold decodeCop1
  split
  case h_12 => rfl
  all_goals
    rename_i hrs
    simp [hrs] at h

theorem decode_cop2 (hop : (opF w).toNat = 18) : decode w = .cop2 := by simp only [decode, hop]

theorem decode_fpUnimplemented (hop : (opF w).toNat = 17)
    (h : ((rsF w).toNat = 16 ∧ (fnF w).toNat < 48 ∧
        (fnF w).toNat ∉ [0, 1, 2, 3, 4, 5, 6, 7, 8, 9, 10, 11, 12, 13, 14, 15, 33, 36, 37]) ∨
      ((rsF w).toNat = 17 ∧ (fnF w).toNat < 48 ∧
        (fnF w).toNat ∉ [0, 1, 2, 3, 4, 5, 6, 7, 8, 9, 10, 11, 12, 13, 14, 15, 32, 36, 37]) ∨
      (((rsF w).toNat = 20 ∨ (rsF w).toNat = 21) ∧ (fnF w).toNat ∉ [32, 33])) : decode w = .fpUnimplemented := by
  simp only [decode, hop]
  unfold decodeCop1
  rcases h with ⟨hrs, hlt, hfn⟩ | ⟨hrs, hlt, hfn⟩ | ⟨hrs | hrs, hfn⟩ <;> simp only [hrs]
  case inl =>
    unfold decodeFpS
    split
    case h_36 => rfl
    all_goals
      rename_i heq
      simp [heq] at hlt hfn
  case inr.inl =>
    unfold decodeFpD
    split
    case h_36 => rfl
    all_goals
      rename_i heq
      simp [heq] at hlt hfn
  case inr.inr.inl =>
    unfold decodeFpW
    split
    case h_3 => rfl
    all_goals
      rename_i heq
      simp [heq] at hfn
  case inr.inr.inr =>
    unfold decodeFpL
    split
    case h_3 => rfl
    all_goals
      rename_i heq
      simp [heq] at hfn

end

/-! ### The round trip and the known words -/

/-- Settles O1: one lemma for each constructor, and the answer of the decoder row by row. -/
theorem decodeEncode : Obligations.DecodeEncode := by
  unfold Obligations.DecodeEncode
  exact ⟨fun i => ⟨decode_encode i, decodeTableWord_encode i⟩, fun _ _ => encode_of_decode⟩

/-- Settles O2: each word is the encoding of its instruction, so it decodes to it. -/
theorem knownWords : Obligations.KnownWords := by
  unfold Obligations.KnownWords
  intro p hp
  have hword : encode p.2 = p.1 := by
    revert p
    decide
  rw [← hword, decode_encode]

end Sys2Proof
end

section
/-! Proofs of the family 30_encoding: the tests before an instruction, and what the words outside the table do
(spec/30_encoding.md R180 to R185). -/

namespace Sys2Proof.Machine

/-! ### The tests by mode and unit -/

section
variable {s : State}

theorem Cop0Usable.requireCop0 (h : Cop0Usable s) : requireCop0 s = .ok () := by
  obtain ⟨m, hmode, husable⟩ := h
  exact requireCop0_ok s m hmode husable

theorem Cop0Unusable.requireCop0 (h : Cop0Unusable s) : requireCop0 s = .error (.exc (.coprocessorUnusable 0)) := by
  obtain ⟨m, hmode, hunusable⟩ := h
  exact requireCop0_error s m hmode hunusable

theorem Forbids64.require64 (h : Forbids64 s) : require64 s = .error (.exc .reservedInstruction) := by
  obtain ⟨m, hmode, hops⟩ := h
  exact require64_error s m hmode hops

/-- In a legal mode coprocessor 0 is usable or not. -/
theorem Forbids64.cop0Usable (h : Forbids64 s) (hnot : ¬ Cop0Unusable s) : Cop0Usable s := by
  obtain ⟨m, hmode, -⟩ := h
  exact ⟨m, hmode, Bool.of_not_eq_false fun hunusable => hnot ⟨m, hmode, hunusable⟩⟩

theorem enters_of_error {e : Exc} {r : Res State} (h : r = .error (.exc e)) :
    ∃ t, finish s r = .next t ∧ Enters e s t := by
  rw [h]
  exact ⟨_, rfl, enters_takeException e s⟩

end

/-! ### Words outside the opcode table -/

section
variable {s : State}

theorem execReservedCop_enters {unit : BitVec 2} (h : requireUnit (some unit) s = .ok ()) :
    ∃ t, execReservedCop unit s = .next t ∧ Enters .reservedInstruction s t := by
  apply enters_of_error
  rw [h]
  rfl

theorem execReservedCop_unusable {unit : BitVec 2} {e : Exc} (h : requireUnit (some unit) s = .error (.exc e)) :
    ∃ t, execReservedCop unit s = .next t ∧ Enters e s t := by
  apply enters_of_error
  rw [h]
  rfl

/-! ### Should-be-zero bits -/

theorem requireUnit_testedUnit {i : Instr} (h0 : opF (encode i) = 16#6 → Cop0Usable s)
    (h1 : opF (encode i) = 17#6 → s.cp0.status.getLsbD 29 = true) : requireUnit (testedUnit i) s = .ok () := by
  unfold testedUnit
  split
  case h_1 hop => exact (h0 (BitVec.eq_of_toNat_eq hop)).requireCop0
  case h_2 hop => exact requireCop1_ok s (h1 (BitVec.eq_of_toNat_eq hop))
  case h_3 => rfl

theorem needs64_of_isOnly64 {i : Instr} (h : isOnly64 i = true) : needs64 i = true := by
  unfold needs64
  split
  case h_12 => exact h
  all_goals rfl

end

/-! ### Privilege -/

section
variable {i : Instr} {s : State} {e : Exc} {α : Type} {x : Res α} {f : α → Res State}

/-- An instruction whose first test raises an exception enters it. -/
theorem answers_complete_error (hx : x = .error (.exc e)) (hexec : exec i s = complete s (x >>= f)) :
    Answers i s (Enters e s) := by
  rw [hx] at hexec
  exact answers_of hexec (enters_of_error rfl)

theorem answers_finish_error (hx : x = .error (.exc e)) (hexec : exec i s = finish s (x >>= f)) :
    Answers i s (Enters e s) := by
  rw [hx] at hexec
  exact answers_of hexec (enters_of_error rfl)

/-- The same for the test after one that passes. -/
theorem answers_complete_error_second {y : Res Unit} (hy : y = .ok ()) (hx : x = .error (.exc e))
    (hexec : exec i s = complete s (y >>= fun _ => x >>= f)) : Answers i s (Enters e s) := by
  rw [hy] at hexec
  exact answers_complete_error hx hexec

theorem cop0_unusable (hop : (opF (encode i)).toNat ∈ [16, 47]) (h : Cop0Unusable s) :
    Answers i s (Enters (.coprocessorUnusable 0) s) := by
  cases i <;> simp [encode] at hop
  case eret => exact answers_finish_error h.requireCop0 rfl
  case mfc0 | mtc0 | dmfc0 | dmtc0 | tlbr | tlbwi | tlbwr | tlbp | cache =>
    exact answers_complete_error h.requireCop0 rfl

theorem cop1_unusable (hop : (opF (encode i)).toNat ∈ [17, 49, 53, 57, 61])
    (h : s.cp0.status.getLsbD 29 = false) : Answers i s (Enters (.coprocessorUnusable 1) s) := by
  have hcop1 := requireCop1_error s h
  cases i <;> simp [encode] at hop
  case lwc1 | ldc1 | swc1 | sdc1 | mfc1 | dmfc1 | cfc1 | mtc1 | dmtc1 | movS | movD =>
    exact answers_complete_error hcop1 rfl
  -- CTC1, the branches, and all arithmetic, conversions and compares
  all_goals exact answers_finish_error hcop1 rfl

theorem only64_forbidden (h64 : needs64 i = true) (h : Forbids64 s)
    (hcop0 : (opF (encode i)).toNat = 16 → Cop0Usable s) : Answers i s (Enters .reservedInstruction s) := by
  cases i <;> cases h64
  case dmfc0 | dmtc0 =>
    have husable : Cop0Usable s := hcop0 (by simp [encode])
    exact answers_complete_error_second husable.requireCop0 h.require64 rfl
  all_goals exact answers_complete_error h.require64 rfl

end

/-! ### The statements -/

/-- Settles O3: each class of words has its own answer of the decoder, and each answer its own effect. -/
theorem reservedEncodings : Obligations.ReservedEncodings := by
  unfold Obligations.ReservedEncodings
  intro w s
  refine ⟨fun h => ?reserved, fun ⟨hop, h⟩ => ?cop0, fun ⟨hop, h⟩ => ?cop1, fun hop => ?cop2, fun ⟨hop, h⟩ => ?fp⟩
  case reserved =>
    have hdecode : decode w = .reserved := by
      rcases h with h | ⟨hop, h⟩ | ⟨hop, h⟩
      · exact decode_reserved h
      · exact decode_reserved_special hop h
      · exact decode_reserved_regimm hop h
    rw [hdecode]
    exact enters_of_error rfl
  case cop0 =>
    rw [decode_reserved_cop0 hop h]
    exact ⟨fun husable => execReservedCop_enters husable.requireCop0,
      fun hunusable => execReservedCop_unusable hunusable.requireCop0⟩
  case cop1 =>
    rw [decode_reserved_cop1 hop h]
    exact ⟨fun hcu1 => execReservedCop_enters (requireCop1_ok s hcu1),
      fun hcu1 => execReservedCop_unusable (requireCop1_error s hcu1)⟩
  case cop2 =>
    rw [decode_cop2 hop]
    exact ⟨fun hcu2 => enters_of_error (if_neg (ne_true_of_eq_false hcu2)),
      fun hcu2 => enters_of_error (if_pos hcu2)⟩
  case fp =>
    rw [decode_fpUnimplemented hop h]
    refine ⟨fun hcu1 => ⟨_, ?_, enters_takeException _ _⟩, fun hcu1 => enters_of_error ?_⟩
    · simp only [execDecoded, fpUnimplementedOp, requireCop1_ok s hcu1]
      rfl
    · rw [requireCop1_error s hcu1]
      rfl

/-- Settles O4: the row has the opcode of the word, so the tests that pass are those of the refusal; and the row's own
word decodes to the instruction. -/
theorem shouldBeZeroRefused : Obligations.ShouldBeZeroRefused := by
  unfold Obligations.ShouldBeZeroRefused
  intro w i s h
  refine ⟨fun hw => ?_, fun h0 h1 h64 => ?_⟩
  · rw [hw, decode_encode] at h
    cases h
  · have hunit : requireUnit (testedUnit i) s = .ok () := by
      apply requireUnit_testedUnit <;> rwa [opF_encode_of_shouldBeZero h]
    rw [h, execDecoded, execShouldBeZero, hunit, res_ok_bind]
    split
    case isTrue honly =>
      rw [(h64 (needs64_of_isOnly64 honly)).require64]
      rfl
    case isFalse => rfl

/-- Settles O37: the test of the unit, and after it that of the mode, comes first in the meaning of each instruction. -/
theorem privilegedInstructions : Obligations.PrivilegedInstructions := by
  unfold Obligations.PrivilegedInstructions
  refine ⟨fun i s => cop0_unusable, fun i s => cop1_unusable, fun i s h64 hforbids hor => ?_, fun s hkernel => ?_⟩
  · exact only64_forbidden h64 hforbids fun hop => hforbids.cop0Usable (hor.resolve_right (not_not.mpr hop))
  · exact ⟨⟨.kernel, hkernel, rfl⟩, ⟨.kernel, hkernel, rfl⟩⟩

end Sys2Proof.Machine
end

section
/-! Proofs of the family 40_load_store: what a load and a store of plain memory do, said once for each shape of meaning,
and the bytes and numbers they move (spec/20_memory.md R100, R130, R131; spec/40_load_store.md R200 to R233). -/

namespace Sys2Proof.Machine

/-! ### The numbers that loads read -/

section
variable {b0 b1 b2 b3 b4 b5 b6 b7 : Byte}

theorem numberOf_one : numberOf [b0] = b0.toNat := Nat.zero_add _

theorem numberOf_two : numberOf [b0, b1] = b0.toNat * 2 ^ 8 + b1.toNat :=
  congrArg (· * 2 ^ 8 + b1.toNat) numberOf_one

theorem numberOf_four :
    numberOf [b0, b1, b2, b3] = b0.toNat * 2 ^ 24 + b1.toNat * 2 ^ 16 + b2.toNat * 2 ^ 8 + b3.toNat := by
  simp only [numberOf, List.foldl_cons, List.foldl_nil]
  omega

theorem numberOf_eight : numberOf [b0, b1, b2, b3, b4, b5, b6, b7] =
    (b0.toNat * 2 ^ 24 + b1.toNat * 2 ^ 16 + b2.toNat * 2 ^ 8 + b3.toNat) * 2 ^ 32 +
      b4.toNat * 2 ^ 24 + b5.toNat * 2 ^ 16 + b6.toNat * 2 ^ 8 + b7.toNat := by
  simp only [numberOf, List.foldl_cons, List.foldl_nil]
  omega

end

theorem sextByte_ofNat (m : Nat) : sextByte (BitVec.ofNat 64 m) = (BitVec.ofNat 8 m).signExtend 64 := by
  rw [sextByte, BitVec.setWidth_ofNat_of_le (by decide)]

theorem sextHalf_ofNat (m : Nat) : sextHalf (BitVec.ofNat 64 m) = (BitVec.ofNat 16 m).signExtend 64 := by
  rw [sextHalf, BitVec.setWidth_ofNat_of_le (by decide)]

theorem sextLow_ofNat (m : Nat) : sextLow (BitVec.ofNat 64 m) = (BitVec.ofNat 32 m).signExtend 64 := by
  rw [sextLow, lowWord_ofNat, sextWord]

theorem toNat_numberAt_lt (q : PAddr) (n : Nat) (s : State) : (numberAt q n s).toNat < 2 ^ (8 * n) := by
  have hlength : (bytesAt q n s).length = n := by rw [bytesAt, List.length_map, List.length_range]
  have hlt := numberOf_lt (bytesAt q n s)
  rw [hlength] at hlt
  rw [numberAt, wordOf, BitVec.toNat_ofNat]
  exact (Nat.mod_le _ _).trans_lt hlt

/-! ### Loads of plain memory -/

section
variable {i : Instr} {align back n m : Nat} {va v : Word} {p q : PAddr} {s : State} {base rt : Reg}
  {offset : BitVec 16} {extend : Word → Word} {merge : Word → Word → Word}

theorem loadBytes_plain (hp : dataAddress false align va s = .ok p) (hq : p - BitVec.ofNat 32 back = q) (hn : 0 < n)
    (h : PlainRead q n s) : loadBytes align back n va s = .ok (numberAt q n s, s) := by
  simp only [loadBytes, hp, hq, busRead_plain q n s hn h, res_ok_bind, res_pure, numberAt]

theorem loadAligned_plain (hp : dataAddress false n (effectiveAddress (readGpr s base) offset) s = .ok p) (hn : 0 < n)
    (h : PlainRead p n s) : loadAligned n extend base rt offset s = .ok (writeGpr s rt (extend (numberAt p n s))) := by
  simp only [loadAligned, loadBytes_plain hp (BitVec.sub_zero p) hn h, res_ok_bind, res_pure]

theorem loadPartial_plain (hp : dataAddress false 1 va s = .ok p) (hq : p - BitVec.ofNat 32 back = q) (hn : 0 < n)
    (h : PlainRead q n s) :
    loadPartial back n merge va rt s = .ok (writeGpr s rt (merge (numberAt q n s) (readGpr s rt))) := by
  simp only [loadPartial, loadBytes_plain hp hq hn h, res_ok_bind, res_pure]

theorem loadLinked_plain (hp : dataAddress false n (effectiveAddress (readGpr s base) offset) s = .ok p) (hn : 0 < n)
    (h : PlainRead p n s) : loadLinked n extend base rt offset s =
      .ok (writeGpr (setLinked p s) rt (extend (numberAt p n s))) := by
  simp only [loadLinked, hp, loadAligned_plain hp hn h, res_ok_bind, res_pure, setLinked_writeGpr]

theorem answers_loadAligned (hexec : exec i s = complete s (loadAligned n extend base rt offset s))
    (hp : dataAddress false n (effectiveAddress (readGpr s base) offset) s = .ok p) (hn : 0 < n) (h : PlainRead p n s)
    (hnumber : numberOf (bytesAt p n s) = m) (hvalue : extend (BitVec.ofNat 64 m) = v) :
    Answers i s (OnlyGpr rt v s) := by
  subst hnumber hvalue
  exact answers_image hexec (loadAligned_plain hp hn h)

theorem answers_loadPartial (hexec : exec i s = complete s (loadPartial back n merge va rt s))
    (hp : dataAddress false 1 va s = .ok p) (hq : p - BitVec.ofNat 32 back = q) (hn : 0 < n) (h : PlainRead q n s)
    (hvalue : merge (BitVec.ofNat 64 (numberAt q n s).toNat) (readGpr s rt) = v) : Answers i s (OnlyGpr rt v s) := by
  rw [BitVec.ofNat_toNat, BitVec.setWidth_eq] at hvalue
  subst hvalue
  exact answers_image hexec (loadPartial_plain hp hq hn h)

theorem answers_loadLinked (hexec : exec i s = complete s (loadLinked n extend base rt offset s))
    (hp : dataAddress false n (effectiveAddress (readGpr s base) offset) s = .ok p) (hn : 0 < n)
    (h : PlainRead p n s) : Answers i s (OnlyGpr rt (extend (numberAt p n s))
      { s with llbit := true, cp0 := { s.cp0 with llAddr := BitVec.ofNat 32 (p.toNat / 16) } }) := by
  rw [← setLinked_eq]
  exact answers_of hexec ⟨_, by rw [loadLinked_plain hp hn h]; rfl, onlyGpr_writeGpr _ rt _⟩

end

/-- Settles O20: an aligned load writes to the register what its extension makes of the big-endian number. -/
theorem loadsFromMemory : Obligations.LoadsFromMemory := by
  unfold Obligations.LoadsFromMemory
  intro s base rt offset p
  refine ⟨fun hp h => ⟨?lb, ?lbu⟩, fun hp h => ⟨?lh, ?lhu⟩, fun hp h => ⟨?lw, ?lwu⟩, fun hp h => ?ld⟩
  case lb => exact answers_loadAligned rfl hp (by decide) h numberOf_one (sextByte_ofNat _)
  case lh => exact answers_loadAligned rfl hp (by decide) h numberOf_two (sextHalf_ofNat _)
  case lw => exact answers_loadAligned rfl hp (by decide) h numberOf_four (sextLow_ofNat _)
  case lbu => exact answers_loadAligned rfl hp (by decide) h numberOf_one rfl
  case lhu => exact answers_loadAligned rfl hp (by decide) h numberOf_two rfl
  case lwu => exact if64_intro rfl fun hexec => answers_loadAligned hexec hp (by decide) h numberOf_four rfl
  case ld => exact if64_intro rfl fun hexec => answers_loadAligned hexec hp (by decide) h numberOf_eight rfl

/-- Settles O21: the bytes read are a number of that many bytes, and the merges are arithmetic on it. -/
theorem partialLoads : Obligations.PartialLoads := by
  unfold Obligations.PartialLoads
  intro s base rt offset p va b c old hp
  have hb : b < 4 := Nat.mod_lt _ (by decide)
  have hc : c < 8 := Nat.mod_lt _ (by decide)
  refine ⟨fun h => ?lwl, fun h => ?lwr, fun h => if64_intro rfl fun hexec => ?ldl,
    fun h => if64_intro rfl fun hexec => ?ldr⟩
  case lwl =>
    exact answers_loadPartial rfl hp (BitVec.sub_zero p) (Nat.sub_pos_of_lt hb) h (mergeWordLeft_eq b _ _)
  case lwr =>
    exact answers_loadPartial rfl hp rfl (Nat.succ_pos b) h (mergeWordRight_eq (toNat_numberAt_lt _ _ s) _)
  case ldl =>
    exact answers_loadPartial hexec hp (BitVec.sub_zero p) (Nat.sub_pos_of_lt hc) h (mergeDoubleLeft_eq c _ _)
  case ldr =>
    exact answers_loadPartial hexec hp rfl (Nat.succ_pos c) h (mergeDoubleRight_eq (toNat_numberAt_lt _ _ s) _)

end Sys2Proof.Machine
end

section
/-! Proofs of the family 40_load_store: stores to plain memory, and store conditional (spec/20_memory.md R131;
spec/40_load_store.md R212 to R233). -/

namespace Sys2Proof.Machine

/-! ### The bytes that stores write -/

section
variable {i j k n : Nat} {v : Word}

theorem getElem_bytesOf (hi : i < (bytesOf n v).length) : (bytesOf n v)[i] = v.extractLsb' (8 * (n - 1 - i)) 8 := by
  simp only [bytesOf, List.getElem_map, List.getElem_range]

/-- A byte of the register as a digit of its number. -/
theorem bytesOf_eq (n : Nat) (v : Word) :
    bytesOf n v = (List.range n).map fun i => BitVec.ofNat 8 (v.toNat / 2 ^ (8 * (n - 1 - i))) := by
  simp only [bytesOf, BitVec.extractLsb', Nat.shiftRight_eq_div_pow]

/-- The least significant bytes come last. -/
theorem drop_bytesOf (h : j + k = n) : (bytesOf n v).drop j = bytesOf k v := by
  apply List.ext_getElem
  · simp only [List.length_drop, length_bytesOf]
    omega
  · intro i hi hi'
    rw [length_bytesOf] at hi'
    rw [List.getElem_drop, getElem_bytesOf, getElem_bytesOf, show n - 1 - (j + i) = k - 1 - i by omega]

/-- The most significant bytes come first. -/
theorem take_bytesOf (h : j + k = n) : (bytesOf n v).take k = bytesOf k (v >>> (8 * j)) := by
  apply List.ext_getElem
  · simp only [List.length_take, length_bytesOf]
    omega
  · intro i hi hi'
    rw [length_bytesOf] at hi'
    rw [List.getElem_take, getElem_bytesOf, getElem_bytesOf, BitVec.extractLsb', BitVec.extractLsb',
      BitVec.toNat_ushiftRight, ← Nat.shiftRight_add, show 8 * j + 8 * (k - 1 - i) = 8 * (n - 1 - i) by omega]

theorem bytesOf_lowWord (h : n ≤ 4) : bytesOf n ((lowWord v).setWidth 64) = bytesOf n v := by
  apply List.map_congr_left
  intro i hi
  have := List.mem_range.mp hi
  rw [lowWord, BitVec.extractLsb'_setWidth_of_le (by omega), BitVec.extractLsb'_setWidth_of_le (by omega)]

end

/-! ### Stores to plain memory -/

section
variable {i : Instr} {align back n : Nat} {va v : Word} {p q : PAddr} {s : State} {base rt : Reg}
  {offset : BitVec 16} {bytes : List Byte}

theorem busWrite_bytesOf (h : PlainWrite q n s) (v : Word) :
    busWrite q (bytesOf n v) s = .ok (setMemBytes q.toNat (bytesOf n v) s) :=
  busWrite_plain q (bytesOf n v) s (by rwa [length_bytesOf])

theorem storeValue_plain (hp : dataAddress true align va s = .ok p) (hq : p - BitVec.ofNat 32 back = q)
    (h : PlainWrite q n s) : storeValue align back n va v s = .ok (setMemBytes q.toNat (bytesOf n v) s) := by
  rw [storeValue, hp, res_ok_bind, hq, busWrite_bytesOf h]

theorem answers_store (hexec : exec i s = complete s (storeValue align back n va v s))
    (hp : dataAddress true align va s = .ok p) (hq : p - BitVec.ofNat 32 back = q) (h : PlainWrite q n s)
    (hbytes : bytesOf n v = bytes) : Answers i s (OnlyMemory q.toNat bytes s) := by
  subst hbytes
  exact answers_of hexec ⟨_, by rw [storeValue_plain hp hq h]; rfl, onlyMemory_setMemBytes _ _ s⟩

/-! ### Store conditional -/

theorem onlyGprMemory_writeGpr (a : Nat) (bytes : List Byte) (s : State) (r : Reg) (v : Word) :
    OnlyGprMemory r v a bytes s (retire (writeGpr (setMemBytes a bytes s) r v)) := by
  have hstored := memByte_setMemBytes_same a bytes s
  have huntouched := (memByte_setMemBytes_other a · bytes s)
  obtain ⟨m, hm⟩ : ∃ m, setMemBytes a bytes s = { s with mem := m } := ⟨_, setMemBytes_eq a bytes s⟩
  rw [hm] at hstored huntouched ⊢
  obtain ⟨hvalue, hothers, hpc, hdelay, hmemory, hrest⟩ := onlyGpr_writeGpr { s with mem := m } r v
  exact ⟨hvalue, hothers, fun k hk => (hmemory _).trans (hstored k hk), fun c hc => (hmemory c).trans (huntouched c hc),
    hpc, hdelay, congrArg (fun u : State => { u with mem := s.mem }) hrest⟩

theorem storeConditional_linked (hp : dataAddress true n (effectiveAddress (readGpr s base) offset) s = .ok p)
    (hlinked : s.llbit = true) (h : PlainWrite p n s) : storeConditional n base rt offset s =
      .ok (writeGpr (setMemBytes p.toNat (bytesOf n (readGpr s rt)) s) rt 1) := by
  simp only [storeConditional, hp, hlinked, busWrite_bytesOf h, res_ok_bind, res_pure, if_true]

theorem storeConditional_broken (hp : dataAddress true n (effectiveAddress (readGpr s base) offset) s = .ok p)
    (hbroken : s.llbit = false) : storeConditional n base rt offset s = .ok (writeGpr s rt 0) := by
  simp only [storeConditional, hp, hbroken, res_ok_bind, res_pure, Bool.false_eq_true, if_false]

/-- Store conditional, both ways (spec/40_load_store.md R232, R233). -/
theorem answers_storeConditional (hexec : exec i s = complete s (storeConditional n base rt offset s))
    (hp : dataAddress true n (effectiveAddress (readGpr s base) offset) s = .ok p)
    (hbytes : bytesOf n (readGpr s rt) = bytes) :
    (s.llbit = true → PlainWrite p n s → Answers i s (OnlyGprMemory rt 1 p.toNat bytes s)) ∧
      (s.llbit = false → Answers i s (OnlyGpr rt 0 s)) := by
  subst hbytes
  refine ⟨fun hlinked h => ?_, fun hbroken => answers_image hexec (storeConditional_broken hp hbroken)⟩
  exact answers_of hexec ⟨_, by rw [storeConditional_linked hp hlinked h]; rfl, onlyGprMemory_writeGpr _ _ s rt 1⟩

end

/-- Settles O22: the bytes of the register go to memory, most significant first. -/
theorem storesToMemory : Obligations.StoresToMemory := by
  unfold Obligations.StoresToMemory
  intro s base rt offset p
  refine ⟨fun hp h => ?sb, fun hp h => ?sh, fun hp h => ?sw, fun hp h => if64_intro rfl fun hexec => ?sd⟩
  case sb | sh | sw => exact answers_store rfl hp (BitVec.sub_zero p) h (bytesOf_eq _ _)
  case sd => exact answers_store hexec hp (BitVec.sub_zero p) h (bytesOf_eq _ _)

/-- Settles O23: a partial store writes the first or the last bytes of the whole unit. -/
theorem partialStores : Obligations.PartialStores := by
  unfold Obligations.PartialStores
  intro s base rt offset p va b c byte word double hp
  have hb : b < 4 := Nat.mod_lt _ (by decide)
  have hc : c < 8 := Nat.mod_lt _ (by decide)
  have hword : bytesOf 4 (readGpr s rt) = word := bytesOf_eq 4 _
  have hdouble : bytesOf 8 (readGpr s rt) = double := bytesOf_eq 8 _
  rw [← hword, ← hdouble]
  refine ⟨fun h => ?swl, fun h => ?swr, fun h => if64_intro rfl fun hexec => ?sdl,
    fun h => if64_intro rfl fun hexec => ?sdr⟩
  case swl =>
    refine answers_store rfl hp (BitVec.sub_zero p) h ?_
    rw [← bytesOf_lowWord le_rfl]
    exact (take_bytesOf (Nat.add_sub_of_le hb.le)).symm
  case swr => exact answers_store rfl hp rfl h (drop_bytesOf (show 3 - b + (b + 1) = 4 by omega)).symm
  case sdl => exact answers_store hexec hp (BitVec.sub_zero p) h (take_bytesOf (Nat.add_sub_of_le hc.le)).symm
  case sdr => exact answers_store hexec hp rfl h (drop_bytesOf (show 7 - c + (c + 1) = 8 by omega)).symm

/-- Settles O24: the link is set beside the load, and LLbit alone decides what store conditional does after its
checks. -/
theorem linkedAndConditional : Obligations.LinkedAndConditional := by
  unfold Obligations.LinkedAndConditional
  intro s base rt offset p
  refine ⟨fun hp h => ?ll, fun hp h => if64_intro rfl fun hexec => ?lld, fun hp => ?sc,
    fun hp => if64_intro rfl fun hexec => ?scd⟩
  case ll => exact answers_loadLinked (extend := sextLow) rfl hp (by decide) h
  case lld => exact answers_loadLinked (extend := id) hexec hp (by decide) h
  case sc => exact answers_storeConditional rfl hp (bytesOf_eq 4 _)
  case scd => exact answers_storeConditional hexec hp (bytesOf_eq 8 _)

end Sys2Proof.Machine
end

section
/-! Proofs of the family 41_alu: the operations on words as arithmetic of integers and natural numbers, and what each
shape of meaning answers (spec/41_alu.md R240 to R280). -/

namespace Sys2Proof.Machine

/-! ### Words as integers -/

section
variable {v : Word} {x : Int}

/-- What SE32 is for: the low word alone is the signed number of the register (spec/41_alu.md R240). -/
theorem toInt_lowWord (h : isSE32 v = true) : (lowWord v).toInt = v.toInt := by
  have hv : v = sextWord (lowWord v) := eq_of_beq h
  calc (lowWord v).toInt = (sextWord (lowWord v)).toInt := (BitVec.toInt_signExtend_of_le (by decide)).symm
    _ = v.toInt := by rw [← hv]

theorem lowWord_eq_ofInt (v : Word) : lowWord v = BitVec.ofInt 32 v.toInt := by
  apply BitVec.eq_of_toInt_eq
  rw [lowWord, BitVec.toInt_setWidth, BitVec.toInt_ofInt, BitVec.toInt_eq_toNat_bmod,
    Int.bmod_bmod_of_dvd (pow_dvd_pow 2 (by decide))]

theorem sextWord_ofInt (h : FitsWord x) : sextWord (BitVec.ofInt 32 x) = BitVec.ofInt 64 x := by
  obtain ⟨hlow, hhigh⟩ := h
  exact congrArg (BitVec.ofInt 64) (BitVec.toInt_ofInt_eq_self (by decide) hlow hhigh)

theorem ofInt_sub (w : Nat) (x y : Int) : BitVec.ofInt w (x - y) = BitVec.ofInt w x - BitVec.ofInt w y := by
  rw [Int.sub_eq_add_neg, BitVec.ofInt_add, BitVec.ofInt_neg, BitVec.sub_eq_add_neg]

theorem not_overflows_word : (!overflows 32 x) = true ↔ FitsWord x := by
  simp [overflows, FitsWord]

theorem not_overflows_double : (!overflows 64 x) = true ↔ FitsDouble x := by
  simp [overflows, FitsDouble]

end

/-! ### Immediates -/

theorem toInt_signedImm (imm : BitVec 16) : (signedImm imm).toInt = imm.toInt :=
  BitVec.toInt_signExtend_of_le (by decide)

theorem zeroImm_eq (imm : BitVec 16) : zeroImm imm = BitVec.ofNat 64 imm.toNat := (BitVec.ofNat_toNat ..).symm

theorem upperImm_eq (imm : BitVec 16) : upperImm imm = BitVec.ofInt 64 (imm.toInt * 2 ^ 16) := by
  rw [mul_comm]
  exact congrArg (BitVec.ofInt 64) BitVec.toInt_append_zero

/-! ### Sums and differences of low words -/

theorem sextWord_add_immediate (a : Word) (imm : BitVec 16) :
    sextWord (lowWord a + imm.signExtend 32) = wordOfInt (a.toInt + imm.toInt) := by
  rw [wordOfInt, BitVec.ofInt_add, ← lowWord_eq_ofInt]
  rfl

theorem sextWord_add (a b : Word) : sextWord (lowWord a + lowWord b) = wordOfInt (a.toInt + b.toInt) := by
  rw [wordOfInt, BitVec.ofInt_add, ← lowWord_eq_ofInt, ← lowWord_eq_ofInt]

theorem sextWord_sub (a b : Word) : sextWord (lowWord a - lowWord b) = wordOfInt (a.toInt - b.toInt) := by
  rw [wordOfInt, ofInt_sub, ← lowWord_eq_ofInt, ← lowWord_eq_ofInt]

/-! ### Sums and differences of doublewords -/

theorem add_signedImm (a : Word) (imm : BitVec 16) : a + signedImm imm = BitVec.ofInt 64 (a.toInt + imm.toInt) := by
  rw [BitVec.ofInt_add, BitVec.ofInt_toInt]
  rfl

theorem add_eq_ofInt (a b : Word) : a + b = BitVec.ofInt 64 (a.toInt + b.toInt) := by
  rw [BitVec.ofInt_add, BitVec.ofInt_toInt, BitVec.ofInt_toInt]

theorem sub_eq_ofInt (a b : Word) : a - b = BitVec.ofInt 64 (a.toInt - b.toInt) := by
  rw [ofInt_sub, BitVec.ofInt_toInt, BitVec.ofInt_toInt]

/-! ### Shifts by powers of two -/

section
variable {w : Nat}

theorem shiftRight_eq_div (x : Int) (n : Nat) : x >>> n = x / 2 ^ n := by
  rw [Int.shiftRight_eq_div_pow, Nat.cast_pow, Nat.cast_ofNat]

theorem shiftLeft_eq_ofNat (x : BitVec w) (n : Nat) : x <<< n = BitVec.ofNat w (x.toNat * 2 ^ n) :=
  congrArg (BitVec.ofNat w) (Nat.shiftLeft_eq ..)

theorem ushiftRight_eq_ofNat (x : BitVec w) (n : Nat) : x >>> n = BitVec.ofNat w (x.toNat / 2 ^ n) := by
  rw [← Nat.shiftRight_eq_div_pow, ← BitVec.toNat_ushiftRight, BitVec.ofNat_toNat, BitVec.setWidth_eq]

theorem sshiftRight_eq_ofInt (x : BitVec w) (n : Nat) : x.sshiftRight n = BitVec.ofInt w (x.toInt / 2 ^ n) := by
  rw [BitVec.sshiftRight_eq, shiftRight_eq_div]

end

theorem sextWord_shiftLeft (x : Word) (n : Nat) :
    sextWord (lowWord x <<< n) = sextWord (BitVec.ofNat 32 (x.toNat * 2 ^ n)) := by
  rw [← lowWord_ofNat, ← shiftLeft_eq_ofNat, lowWord, lowWord, BitVec.setWidth_shiftLeft_of_le (by decide)]

theorem sextWord_ushiftRight (x : Word) (n : Nat) :
    sextWord (lowWord x >>> n) = sextWord (BitVec.ofNat 32 (x.toNat % 2 ^ 32 / 2 ^ n)) := by
  rw [ushiftRight_eq_ofNat, lowWord, BitVec.toNat_setWidth]

theorem sextWord_sshiftRight {x : Word} (h : (lowWord x).toInt = x.toInt) (n : Nat) :
    sextWord ((lowWord x).sshiftRight n) = BitVec.ofInt 64 (x.toInt / 2 ^ n) := by
  rw [← h]
  exact congrArg (BitVec.ofInt 64) (BitVec.toInt_sshiftRight.trans (shiftRight_eq_div _ n))

theorem shiftAmount32_eq (v : Word) : shiftAmount32 v = v.toNat % 32 := BitVec.extractLsb'_toNat ..

theorem shiftAmount64_eq (v : Word) : shiftAmount64 v = v.toNat % 64 := BitVec.extractLsb'_toNat ..

/-! ### Instructions on words -/

section
variable {i : Instr} {s : State} {r : Res State} {X : Prop} {a b : Word}

theorem requireSE32_ok (h : isSE32 a = true) : requireSE32 a = .ok () := by rw [requireSE32, h, require_true]

theorem requireSE32_error (h : isSE32 a = false) : requireSE32 a = .error (.refused .notSignExtended) := by
  rw [requireSE32, h, require_false]

/-- An instruction that tests one operand first: when it passes, its low word is its number. -/
theorem ifWords_one (hexec : exec i s = complete s (requireSE32 a >>= fun _ => r))
    (h : exec i s = complete s r → (lowWord a).toInt = a.toInt → X) : IfWords [a] i s X := by
  refine ⟨fun hall => ?_, fun ⟨v, hv, hbad⟩ => ?_⟩
  · have ha := hall a List.mem_cons_self
    exact h (by rw [hexec, requireSE32_ok ha, res_ok_bind]) (toInt_lowWord ha)
  · obtain rfl := List.mem_singleton.mp hv
    rw [hexec, requireSE32_error hbad, res_error_bind, complete_refused]

/-- The same for two operands: the first is refused by its own test, else the second alone is left. -/
theorem ifWords_two (hexec : exec i s = complete s (requireSE32 a >>= fun _ => requireSE32 b >>= fun _ => r))
    (h : exec i s = complete s r → (lowWord a).toInt = a.toInt → (lowWord b).toInt = b.toInt → X) :
    IfWords [a, b] i s X := by
  cases ha : isSE32 a with
  | false =>
    refine ⟨fun hall => absurd (hall a List.mem_cons_self) (ne_true_of_eq_false ha), fun _ => ?_⟩
    rw [hexec, requireSE32_error ha, res_error_bind, complete_refused]
  | true =>
    rw [requireSE32_ok ha, res_ok_bind] at hexec
    obtain ⟨hpass, hrefused⟩ := ifWords_one hexec fun hrun hb => h hrun (toInt_lowWord ha) hb
    refine ⟨fun hall => hpass fun v hv => hall v (List.mem_cons_of_mem _ hv), fun ⟨v, hv, hbad⟩ => ?_⟩
    obtain rfl | hv := List.mem_cons.mp hv
    · exact absurd ha (ne_true_of_eq_false hbad)
    · exact hrefused ⟨v, hv, hbad⟩

end

/-! ### The result in the register -/

section
variable {i : Instr} {s : State} {dst : Reg} {x y : Int}

theorem answers_put {w v : Word} (hexec : exec i s = complete s (.ok (writeGpr s dst w))) (h : w = v) :
    Answers i s (OnlyGpr dst v s) :=
  answers_image hexec (h ▸ rfl)

theorem answers_putBool {c : Bool} {P : Prop} [Decidable P] (hexec : exec i s = complete s (putBool dst c s))
    (h : c = true ↔ P) : Answers i s (OnlyGpr dst (if P then 1 else 0) s) :=
  answers_put hexec (if_congr h rfl rfl)

/-- A trapping sum of words, both ways (spec/41_alu.md R280). -/
theorem answers_putWordTrap (hexec : exec i s = complete s (putWordTrap dst x s)) (h : x = y) :
    (FitsWord y → Answers i s (OnlyGpr dst (BitVec.ofInt 64 y) s)) ∧
      (¬ FitsWord y → Answers i s (Enters .integerOverflow s)) := by
  subst h
  refine ⟨fun hfits => ?_, fun hover => ?_⟩
  · rw [putWordTrap, not_overflows_word.mpr hfits] at hexec
    exact answers_put hexec (sextWord_ofInt hfits)
  · rw [← not_overflows_word, Bool.not_eq_true] at hover
    exact answers_complete_error (by rw [hover, require_false]) hexec

/-- The same for doublewords. -/
theorem answers_putDoubleTrap (hexec : exec i s = complete s (putDoubleTrap dst x s)) :
    (FitsDouble x → Answers i s (OnlyGpr dst (BitVec.ofInt 64 x) s)) ∧
      (¬ FitsDouble x → Answers i s (Enters .integerOverflow s)) := by
  refine ⟨fun hfits => ?_, fun hover => ?_⟩
  · rw [putDoubleTrap, not_overflows_double.mpr hfits] at hexec
    exact answers_put hexec rfl
  · rw [← not_overflows_double, Bool.not_eq_true] at hover
    exact answers_complete_error (by rw [hover, require_false]) hexec

end

/-! ### The statements -/

/-- Settles O6: operands that pass the test are their low words, so the sums of low words are the exact sums. -/
theorem addSubtractWord : Obligations.AddSubtractWord := by
  unfold Obligations.AddSubtractWord
  intro s rs rt rd imm a b
  refine ⟨ifWords_one rfl fun hexec ha => ?addi, ifWords_one rfl fun hexec _ => ?addiu,
    ifWords_two rfl fun hexec ha hb => ?add, ifWords_two rfl fun hexec _ _ => ?addu,
    ifWords_two rfl fun hexec ha hb => ?sub, ifWords_two rfl fun hexec _ _ => ?subu⟩
  case addi => exact answers_putWordTrap hexec (congrArg (· + imm.toInt) ha)
  case addiu => exact answers_put hexec (sextWord_add_immediate _ imm)
  case add => exact answers_putWordTrap hexec (congrArg₂ (· + ·) ha hb)
  case addu => exact answers_put hexec (sextWord_add _ _)
  case sub => exact answers_putWordTrap hexec (congrArg₂ (· - ·) ha hb)
  case subu => exact answers_put hexec (sextWord_sub _ _)

/-- Settles O7: the trapping forms test the exact sum they write, and the others are sums modulo 2^64. -/
theorem addSubtractDouble : Obligations.AddSubtractDouble := by
  unfold Obligations.AddSubtractDouble
  intro s rs rt rd imm a b
  refine ⟨if64_intro rfl fun hexec => ?daddi, if64_intro rfl fun hexec => ?daddiu, if64_intro rfl fun hexec => ?dadd,
    if64_intro rfl fun hexec => ?daddu, if64_intro rfl fun hexec => ?dsub, if64_intro rfl fun hexec => ?dsubu⟩
  case daddi | dadd | dsub => exact answers_putDoubleTrap hexec
  case daddiu => exact answers_put hexec (add_signedImm _ imm)
  case daddu => exact answers_put hexec (add_eq_ofInt _ _)
  case dsubu => exact answers_put hexec (sub_eq_ofInt _ _)

/-- Settles O8: each instruction writes its own operation of the two doublewords. -/
theorem logicAndCompare : Obligations.LogicAndCompare := by
  unfold Obligations.LogicAndCompare
  intro s rs rt rd imm a b i z
  have himm : zeroImm imm = z := zeroImm_eq imm
  refine ⟨?slti, ?sltiu, ?andi, ?ori, ?xori, ?lui, ?and, ?or, ?xor, ?nor, ?slt, ?sltu⟩
  case slti =>
    rw [← toInt_signedImm imm]
    exact answers_putBool rfl BitVec.slt_iff_toInt_lt
  case slt => exact answers_putBool rfl BitVec.slt_iff_toInt_lt
  case sltiu | sltu => exact answers_putBool rfl BitVec.ult_iff_toNat_lt
  case andi => exact answers_put rfl (congrArg (a &&& ·) himm)
  case ori => exact answers_put rfl (congrArg (a ||| ·) himm)
  case xori => exact answers_put rfl (congrArg (a ^^^ ·) himm)
  case lui => exact answers_put rfl (upperImm_eq imm)
  case and | or | xor | nor => exact answers_put rfl rfl

/-- Settles O9: a shift of the low word is arithmetic on the register, for a fixed and for a variable amount. -/
theorem shiftWord : Obligations.ShiftWord := by
  unfold Obligations.ShiftWord
  intro s rs rt rd sa x v left right arithmetic
  have hv : shiftAmount32 (readGpr s rs) = v := shiftAmount32_eq _
  rw [← hv]
  refine ⟨?sll, ?sllv, ifWords_one rfl fun hexec _ => ?srl, ifWords_one rfl fun hexec _ => ?srlv,
    ifWords_one rfl fun hexec hx => ?sra, ifWords_one rfl fun hexec hx => ?srav⟩
  case sll | sllv => exact answers_put rfl (sextWord_shiftLeft x _)
  case srl | srlv => exact answers_put hexec (sextWord_ushiftRight x _)
  case sra | srav => exact answers_put hexec (sextWord_sshiftRight hx _)

/-- Settles O10: the nine forms differ in the amount alone. -/
theorem shiftDouble : Obligations.ShiftDouble := by
  unfold Obligations.ShiftDouble
  intro s rs rt rd sa x v left right arithmetic
  have hv : shiftAmount64 (readGpr s rs) = v := shiftAmount64_eq _
  rw [← hv]
  refine ⟨if64_intro rfl fun hexec => ?dsll, if64_intro rfl fun hexec => ?dsrl, if64_intro rfl fun hexec => ?dsra,
    if64_intro rfl fun hexec => ?dsllv, if64_intro rfl fun hexec => ?dsrlv, if64_intro rfl fun hexec => ?dsrav,
    if64_intro rfl fun hexec => ?dsll32, if64_intro rfl fun hexec => ?dsrl32, if64_intro rfl fun hexec => ?dsra32⟩
  case dsll | dsllv | dsll32 => exact answers_put hexec (shiftLeft_eq_ofNat x _)
  case dsrl | dsrlv | dsrl32 => exact answers_put hexec (ushiftRight_eq_ofNat x _)
  case dsra | dsrav | dsra32 => exact answers_put hexec (sshiftRight_eq_ofInt x _)

end Sys2Proof.Machine
end

section
/-! Proofs of the family 42_muldiv: the halves of a product and the results of a division as arithmetic of integers and
natural numbers, and what an instruction that writes HI and LO answers (spec/42_muldiv.md R290 to R303). -/

namespace Sys2Proof.Machine

/-! ### Fields of an exact integer -/

section
variable {w k n : Nat}

theorem exists_eq_toNat_ofInt_add (w : Nat) (x : Int) : ∃ t, x = (BitVec.ofInt w x).toNat + 2 ^ w * t := by
  refine ⟨x / (2 ^ w : Nat), ?_⟩
  have hnonneg : 0 ≤ x % (2 ^ w : Nat) := Int.emod_nonneg _ (by positivity)
  rw [BitVec.toNat_ofInt, Int.toNat_of_nonneg hnonneg]
  exact_mod_cast (Int.emod_add_mul_ediv x (2 ^ w : Nat)).symm

theorem ofInt_add_two_pow_mul (n : Nat) (x t : Int) : BitVec.ofInt n (x + 2 ^ n * t) = BitVec.ofInt n x := by
  apply BitVec.eq_of_toInt_eq
  rw [BitVec.toInt_ofInt, BitVec.toInt_ofInt]
  exact_mod_cast Int.add_mul_bmod_self_left x (2 ^ n) t

/-- A field of a number that has room for it is a field of the exact integer: what the width cuts off lies above. -/
theorem extractLsb'_ofInt (x : Int) (h : k + n ≤ w) :
    (BitVec.ofInt w x).extractLsb' k n = BitVec.ofInt n (x / 2 ^ k) := by
  obtain ⟨m, rfl⟩ := Nat.exists_eq_add_of_le h
  obtain ⟨t, ht⟩ := exists_eq_toNat_ofInt_add (k + n + m) x
  generalize BitVec.ofInt (k + n + m) x = v at ht ⊢
  have hdiv : x / 2 ^ k = (v.toNat >>> k : Nat) + 2 ^ n * (2 ^ m * t) := by
    rw [ht, pow_add, pow_add, mul_assoc, mul_assoc, Int.add_mul_ediv_left _ _ (by positivity),
      Nat.shiftRight_eq_div_pow]
    norm_cast
  rw [hdiv, ofInt_add_two_pow_mul, BitVec.ofInt_natCast, BitVec.extractLsb']

theorem extractLsb'_zero_ofInt (x : Int) (h : n ≤ w) : (BitVec.ofInt w x).extractLsb' 0 n = BitVec.ofInt n x := by
  rw [extractLsb'_ofInt x (by rwa [Nat.zero_add]), pow_zero, Int.ediv_one]

end

/-! ### Quotients and remainders of words -/

theorem toNat_lowWord (v : Word) : (lowWord v).toNat = v.toNat % 2 ^ 32 := BitVec.toNat_setWidth ..

theorem lowWord_eq_zero_iff (v : Word) : lowWord v = 0 ↔ v.toNat % 2 ^ 32 = 0 := by
  rw [← toNat_lowWord]
  exact BitVec.toNat_inj.symm

theorem wordOfInt_toNat (v : Word32) : wordOfInt v.toNat = sextWord v := by
  rw [wordOfInt, BitVec.ofInt_natCast, BitVec.ofNat_toNat, BitVec.setWidth_eq]

theorem sextWord_umod (a b : Word) :
    sextWord (lowWord a % lowWord b) = wordOfInt (a.toNat % 2 ^ 32 % (b.toNat % 2 ^ 32) : Nat) := by
  rw [← wordOfInt_toNat, BitVec.toNat_umod, toNat_lowWord, toNat_lowWord]

theorem sextWord_udiv (a b : Word) :
    sextWord (lowWord a / lowWord b) = wordOfInt (a.toNat % 2 ^ 32 / (b.toNat % 2 ^ 32) : Nat) := by
  rw [← wordOfInt_toNat, BitVec.toNat_udiv, toNat_lowWord, toNat_lowWord]

theorem sextWord_ofInt_toInt (v : Word32) : sextWord (BitVec.ofInt 32 v.toInt) = BitVec.ofInt 64 v.toInt :=
  sextWord_ofInt ⟨v.le_toInt, v.toInt_lt⟩

/-- Only the most negative word divided by -1 has a quotient that is no word (spec/42_muldiv.md R291). -/
theorem sextWord_ofInt_tdiv {x y : Word32} (h : ¬ (x.toInt = -(2 ^ 31) ∧ y.toInt = -1)) :
    sextWord (BitVec.ofInt 32 (x.toInt.tdiv y.toInt)) = BitVec.ofInt 64 (x.toInt.tdiv y.toInt) := by
  have hne : x ≠ BitVec.intMin 32 ∨ y ≠ -1#32 := by
    by_contra! hcorner
    obtain ⟨rfl, rfl⟩ := hcorner
    exact h (by decide)
  rw [← BitVec.toInt_sdiv_of_ne_or_ne x y hne, sextWord_ofInt_toInt]

theorem sextWord_ofInt_tmod (x y : Word32) :
    sextWord (BitVec.ofInt 32 (x.toInt.tmod y.toInt)) = BitVec.ofInt 64 (x.toInt.tmod y.toInt) := by
  rw [← BitVec.toInt_srem, sextWord_ofInt_toInt]

theorem umod_eq_ofNat (a b : Word) : a % b = BitVec.ofNat 64 (a.toNat % b.toNat) := by
  rw [← BitVec.toNat_umod, BitVec.ofNat_toNat, BitVec.setWidth_eq]

theorem udiv_eq_ofNat (a b : Word) : a / b = BitVec.ofNat 64 (a.toNat / b.toNat) := by
  rw [← BitVec.toNat_udiv, BitVec.ofNat_toNat, BitVec.setWidth_eq]

theorem sub_tdiv_mul (n d : Int) : n - n.tdiv d * d = n.tmod d := by rw [Int.tmod_def, mul_comm]

/-! ### Instructions that write HI and LO -/

section
variable {i : Instr} {s : State} {a b : Word}

/-- An instruction on two words tests both of them first (spec/42_muldiv.md R290). -/
theorem ifWords_pair {r : Res State} {X : Prop} (hexec : exec i s = complete s (requireWords a b >>= fun _ => r))
    (h : exec i s = complete s r → (lowWord a).toInt = a.toInt → (lowWord b).toInt = b.toInt → X) :
    IfWords [a, b] i s X :=
  ifWords_two (by rw [hexec, requireWords, bind_assoc]) h

theorem answers_putHiLo {h l hi lo : Word} (hexec : exec i s = complete s (.ok (writeHiLo s h l))) (hh : h = hi)
    (hl : l = lo) : Answers i s (OnlyHiLo hi lo s) := by
  subst hh hl
  exact answers_of hexec ⟨_, rfl, onlyHiLo_writeHiLo s h l⟩

theorem answers_putProduct32 {x : Int} (hexec : exec i s = complete s (putProduct32 (BitVec.ofInt 64 x) s)) :
    Answers i s (OnlyHiLo (wordOfInt (x / 2 ^ 32)) (wordOfInt x) s) :=
  answers_putHiLo hexec (congrArg sextWord (extractLsb'_ofInt x (by decide)))
    (congrArg sextWord (extractLsb'_zero_ofInt x (by decide)))

theorem answers_putProduct64 {x : Int} (hexec : exec i s = complete s (putProduct64 (BitVec.ofInt 128 x) s)) :
    Answers i s (OnlyHiLo (BitVec.ofInt 64 (x / 2 ^ 64)) (BitVec.ofInt 64 x) s) :=
  answers_putHiLo hexec (extractLsb'_ofInt x (by decide)) (extractLsb'_zero_ofInt x (by decide))

/-- The same for a product of unsigned words. -/
theorem answers_putProduct32_nat {x : Nat} (hexec : exec i s = complete s (putProduct32 (BitVec.ofNat 64 x) s)) :
    Answers i s (OnlyHiLo (wordOfInt (x / 2 ^ 32 : Nat)) (wordOfInt x) s) := by
  rw [← BitVec.ofInt_natCast] at hexec
  rw [Int.natCast_ediv, Nat.cast_pow, Nat.cast_ofNat]
  exact answers_putProduct32 hexec

theorem answers_putProduct64_nat {x : Nat} (hexec : exec i s = complete s (putProduct64 (BitVec.ofNat 128 x) s)) :
    Answers i s (OnlyHiLo (BitVec.ofNat 64 (x / 2 ^ 64)) (BitVec.ofNat 64 x) s) := by
  rw [← BitVec.ofInt_natCast] at hexec
  rw [← BitVec.ofInt_natCast, ← BitVec.ofInt_natCast, Int.natCast_ediv, Nat.cast_pow, Nat.cast_ofNat]
  exact answers_putProduct64 hexec

/-- A choice between two results, each with its own answer; the statement may word the condition differently. -/
theorem answers_ite {c c' : Prop} [Decidable c] [Decidable c'] {r r' : Res State} {P Q : State → Prop}
    (hexec : exec i s = complete s (if c then r else r')) (hc : c ↔ c')
    (hthen : exec i s = complete s r → Answers i s P) (helse : ¬ c' → exec i s = complete s r' → Answers i s Q) :
    Answers i s (if c' then P else Q) := by
  by_cases h : c'
  · rw [if_pos (hc.mpr h)] at hexec
    rw [if_pos h]
    exact hthen hexec
  · rw [if_neg (mt hc.mp h)] at hexec
    rw [if_neg h]
    exact helse h hexec

theorem answers_putCorner {c : Word × Word} (hexec : exec i s = complete s (putCorner c s)) :
    Answers i s (OnlyHiLo c.1 c.2 s) :=
  answers_putHiLo hexec rfl rfl

/-- Signed division of either width, with the two corners first; `m` is the most negative dividend
(spec/42_muldiv.md R291, R296, R298). -/
theorem answers_signedDivision {n d m : Int} {zero most : Word × Word} {rem quot : Word}
    (hexec : exec i s = complete s (if d = 0 then putCorner zero s
      else if n = m ∧ d = -1 then putCorner most s else putQuotient64 rem quot s))
    (hrem : rem = BitVec.ofInt 64 (n.tmod d)) (hquot : ¬ (n = m ∧ d = -1) → quot = BitVec.ofInt 64 (n.tdiv d)) :
    Answers i s (if d = 0 then OnlyHiLo zero.1 zero.2 s
      else if n = m ∧ d = -1 then OnlyHiLo most.1 most.2 s
      else OnlyHiLo (BitVec.ofInt 64 (n.tmod d)) (BitVec.ofInt 64 (n.tdiv d)) s) :=
  answers_ite hexec Iff.rfl answers_putCorner fun _ hexec =>
    answers_ite hexec Iff.rfl answers_putCorner fun hover hexec => answers_putHiLo hexec hrem (hquot hover)

end

/-! ### The statements -/

/-- Settles O11: HI and LO are the upper and the lower half of the exact product, which the wide number has room for. -/
theorem multiplyAndMoves : Obligations.MultiplyAndMoves := by
  unfold Obligations.MultiplyAndMoves
  intro s rs rt rd a b p q r
  refine ⟨ifWords_pair rfl fun hexec ha hb => ?mult, ifWords_pair rfl fun hexec _ _ => ?multu,
    if64_intro rfl fun hexec => ?dmult, if64_intro rfl fun hexec => ?dmultu, ?mfhi, ?mthi, ?mflo, ?mtlo⟩
  case mult =>
    rw [ha, hb] at hexec
    exact answers_putProduct32 hexec
  case multu =>
    rw [toNat_lowWord, toNat_lowWord] at hexec
    exact answers_putProduct32_nat hexec
  case dmult => exact answers_putProduct64 hexec
  case dmultu => exact answers_putProduct64_nat hexec
  case mfhi | mflo => exact answers_put rfl rfl
  case mthi | mtlo => exact answers_putHiLo rfl rfl rfl

/-- Settles O12: apart from the corners, the quotient and the remainder of two signed words are words again, and the
unsigned results are those of the low words as natural numbers. -/
theorem divideResults : Obligations.DivideResults := by
  unfold Obligations.DivideResults
  intro s rs rt a b n d m e corner
  refine ⟨ifWords_pair rfl fun hexec ha hb => ?div, ifWords_pair rfl fun hexec _ _ => ?divu,
    if64_intro rfl fun hexec => ?ddiv, if64_intro rfl fun hexec => ?ddivu⟩
  case div =>
    have hn : n = (lowWord a).toInt := ha.symm
    have hd : d = (lowWord b).toInt := hb.symm
    rw [hn, hd]
    exact answers_signedDivision hexec (by rw [sub_tdiv_mul, sextWord_ofInt_tmod]) sextWord_ofInt_tdiv
  case divu =>
    exact answers_ite hexec (lowWord_eq_zero_iff b) answers_putCorner fun _ hexec =>
      answers_putHiLo hexec (sextWord_umod a b) (sextWord_udiv a b)
  case ddiv => exact answers_signedDivision hexec (by rw [sub_tdiv_mul]) fun _ => rfl
  case ddivu =>
    exact answers_ite hexec (BitVec.toNat_inj (y := 0)).symm answers_putCorner fun _ hexec =>
      answers_putHiLo hexec (umod_eq_ofNat a b) (udiv_eq_ofNat a b)

end Sys2Proof.Machine
end

section
/-! Proofs of the family 43_branch_jump: the conditions and targets of the branches as arithmetic, and what a control
transfer outside a delay slot answers (spec/43_branch_jump.md R310 to R331; spec/10_state.md R27). -/

namespace Sys2Proof.Machine

/-! ### Conditions -/

section
variable {v : Word}

theorem isNegative_iff : isNegative v = true ↔ v.toInt < 0 := by
  rw [← decide_eq_true_iff (p := v.toInt < 0), ← BitVec.msb_eq_toInt, BitVec.msb_eq_getLsbD_last, isNegative]

theorem not_isNegative_iff : (!isNegative v) = true ↔ 0 ≤ v.toInt := by
  rw [Bool.not_eq_true', ← Bool.not_eq_true, isNegative_iff, not_lt]

theorem isNotPositive_iff : isNotPositive v = true ↔ v.toInt ≤ 0 := by
  rw [isNotPositive, Bool.or_eq_true, isNegative_iff, beq_iff_eq, ← BitVec.toInt_inj, le_iff_lt_or_eq]
  rfl

theorem not_isNotPositive_iff : (!isNotPositive v) = true ↔ 0 < v.toInt := by
  rw [Bool.not_eq_true', ← Bool.not_eq_true, isNotPositive_iff, not_le]

end

/-! ### Targets -/

theorem branchTarget_eq (s : State) (offset : BitVec 16) : branchTarget s.pc offset = targetOf s offset := by
  have hscaled : (offset ++ 0#2).signExtend 64 = BitVec.ofInt 64 (4 * offset.toInt) :=
    congrArg (BitVec.ofInt 64) BitVec.toInt_append_zero
  rw [branchTarget, hscaled, targetOf]

/-- Both sides are the region and the target as shifts, joined bit by bit. -/
theorem jumpTarget_eq (pc : Word) (target : BitVec 26) : jumpTarget pc target =
    ((pc + 4) &&& 0xFFFFFFFFF0000000) ||| BitVec.ofNat 64 (target.toNat * 4) := by
  rw [jumpTarget]
  generalize pc + 4 = slot
  have hregion : slot &&& (0xFFFFFFFFF0000000 : Word) = slot >>> 28 <<< 28 := by
    rw [BitVec.shiftLeft_ushiftRight]
    rfl
  have hoffset : BitVec.ofNat 64 (target.toNat * 4) = target.setWidth 64 <<< 2 := by
    rw [shiftLeft_eq_ofNat, BitVec.toNat_setWidth_of_le (by decide)]
    rfl
  rw [hregion, hoffset]
  ext k hk
  grind

/-! ### Control transfers outside a delay slot -/

/-- A transfer from u, which is s with the link written if there is one, ends in a state that Q describes. -/
structure Transfers (Q : Word → Option Word → State → Prop) (s u : State) : Prop where
  outside : u.delay = none
  pc : u.pc = s.pc
  frame : ∀ pc delay, Q pc delay { u with pc := pc, delay := delay }

theorem transfers_self {s : State} (h : s.delay = none) : Transfers (OnlyControl · · s) s s :=
  ⟨h, rfl, fun _ _ => ⟨rfl, rfl, fun _ => rfl, rfl⟩⟩

theorem link_pc (r : Reg) (s : State) : (link r s).pc = s.pc := writeGpr_pc s r _

theorem link_delay (r : Reg) (s : State) : (link r s).delay = s.delay := writeGpr_delay s r _

theorem onlyLink_link (s : State) (r : Reg) (pc : Word) (delay : Option Word) :
    OnlyLink r (s.pc + 8) pc delay s { link r s with pc := pc, delay := delay } where
  value := (readGpr_writeGpr s r r _).trans (by rw [if_pos rfl])
  others q hq := by
    refine (readGpr_writeGpr s r q _).trans ?_
    rw [if_neg hq]
    split
    · next hzero => rw [hzero]; rfl
    · rfl
  pc := rfl
  delay := rfl
  memory a := by simp [memByte, link]
  rest := by unfold link writeGpr; split <;> rfl

theorem transfers_link {s : State} (h : s.delay = none) (r : Reg) :
    Transfers (OnlyLink r (s.pc + 8) · · s) s (link r s) :=
  ⟨(link_delay r s).trans h, link_pc r s, onlyLink_link s r⟩

section
variable {Q : Word → Option Word → State → Prop} {i : Instr} {s u : State} (hu : Transfers Q s u)
include hu

theorem answers_branchTo {target : Word} (hexec : exec i s = finish s (branchTo target u)) :
    Answers i s (Q (s.pc + 4) (some target)) :=
  answers_of hexec ⟨_, by rw [branchTo_ok target u hu.outside, hu.pc, finish_ok], hu.frame _ _⟩

theorem answers_skipSlot (hexec : exec i s = finish s (skipSlot u)) : Answers i s (Q (s.pc + 8) none) :=
  answers_of hexec ⟨_, by rw [skipSlot_ok u hu.outside, hu.outside, hu.pc, finish_ok], hu.frame _ _⟩

variable {offset : BitVec 16} {c : Bool} {P : Prop}

theorem answers_branchIf (hexec : exec i s = finish s (branchIf c offset u)) (hc : c = true ↔ P) :
    (P → Answers i s (Q (s.pc + 4) (some (targetOf s offset)))) ∧
      (¬ P → Answers i s (Q (s.pc + 4) (some (s.pc + 8)))) := by
  rw [branchIf, hu.pc, branchTarget_eq] at hexec
  exact ⟨fun htaken => answers_branchTo hu (by rw [hexec, if_pos (hc.mpr htaken)]),
    fun hnot => answers_branchTo hu (by rw [hexec, if_neg (mt hc.mp hnot)])⟩

theorem answers_branchLikelyIf (hexec : exec i s = finish s (branchLikelyIf c offset u)) (hc : c = true ↔ P) :
    (P → Answers i s (Q (s.pc + 4) (some (targetOf s offset)))) ∧ (¬ P → Answers i s (Q (s.pc + 8) none)) := by
  rw [branchLikelyIf, hu.pc, branchTarget_eq] at hexec
  exact ⟨fun htaken => answers_branchTo hu (by rw [hexec, if_pos (hc.mpr htaken)]),
    fun hnot => answers_skipSlot hu (by rw [hexec, if_neg (mt hc.mp hnot)])⟩

end

/-! ### The statements on branches and jumps -/

/-- Settles O13: outside a delay slot each branch ends in `branchIf` or `branchLikelyIf`, with its condition as a
comparison of integers. -/
theorem conditionalBranches : Obligations.ConditionalBranches := by
  unfold Obligations.ConditionalBranches
  intro s rs rt offset hout x y
  have hs := transfers_self hout
  simp only [List.forall_mem_cons, List.not_mem_nil, false_implies, implies_true, and_true]
  refine ⟨⟨?beq, ?bne, ?blez, ?bgtz, ?bltz, ?bgez⟩, ?beql, ?bnel, ?blezl, ?bgtzl, ?bltzl, ?bgezl⟩
  case beq => exact answers_branchIf hs rfl beq_iff_eq
  case bne => exact answers_branchIf hs rfl bne_iff_ne
  case blez => exact answers_branchIf hs rfl isNotPositive_iff
  case bgtz => exact answers_branchIf hs rfl not_isNotPositive_iff
  case bltz => exact answers_branchIf hs rfl isNegative_iff
  case bgez => exact answers_branchIf hs rfl not_isNegative_iff
  case beql => exact answers_branchLikelyIf hs rfl beq_iff_eq
  case bnel => exact answers_branchLikelyIf hs rfl bne_iff_ne
  case blezl => exact answers_branchLikelyIf hs rfl isNotPositive_iff
  case bgtzl => exact answers_branchLikelyIf hs rfl not_isNotPositive_iff
  case bltzl => exact answers_branchLikelyIf hs rfl isNegative_iff
  case bgezl => exact answers_branchLikelyIf hs rfl not_isNegative_iff

/-- Settles O14: the test of rs comes first; after it the link is written and the branch goes on from there with the
condition on rs as it was. -/
theorem linkingBranches : Obligations.LinkingBranches := by
  unfold Obligations.LinkingBranches
  intro s rs offset x
  simp only [List.forall_mem_cons, List.not_mem_nil, false_implies, implies_true, and_true]
  refine ⟨fun hout hrs => ?run, rfl, rfl, rfl, rfl⟩
  have hlink := transfers_link hout 31
  have hpass : requireNotLink rs = .ok () := (require_ok _ _).mpr (bne_iff_ne.mpr hrs)
  refine ⟨⟨?bltzal, ?bgezal⟩, ?bltzall, ?bgezall⟩
  case bltzal => exact answers_branchIf hlink (finish_after hpass rfl) isNegative_iff
  case bgezal => exact answers_branchIf hlink (finish_after hpass rfl) not_isNegative_iff
  case bltzall => exact answers_branchLikelyIf hlink (finish_after hpass rfl) isNegative_iff
  case bgezall => exact answers_branchLikelyIf hlink (finish_after hpass rfl) not_isNegative_iff

/-- Settles O15: each jump ends in `branchTo`, the linking ones after the link, with the target as it was before. -/
theorem jumps : Obligations.Jumps := by
  unfold Obligations.Jumps
  intro s target rs rd region
  have hregion : jumpTarget s.pc target = region := jumpTarget_eq s.pc target
  rw [← hregion]
  refine ⟨fun hout => ⟨?j, ?jal, ?jr, fun hne => ?jalr⟩, ?same⟩
  case j | jr => exact answers_branchTo (transfers_self hout) rfl
  case jal => exact answers_branchTo (transfers_link hout 31) rfl
  case jalr =>
    exact answers_branchTo (transfers_link hout rd) (finish_after ((require_ok _ _).mpr (bne_iff_ne.mpr hne)) rfl)
  case same =>
    change execJalr rs rs s = _
    rw [execJalr, bne_self_eq_false]
    rfl

end Sys2Proof.Machine
end

section
/-! Proofs of the family 43_branch_jump: which instructions open a delay slot, and what an exception in it records
(spec/43_branch_jump.md R333; spec/60_exceptions.md R480, R481). -/

namespace Sys2Proof.Machine

/-- If t stands before a delay slot, a transfer of s outside one opened it, at the next word (spec/10_state.md R27). -/
def OpensSlot (s t : State) : Prop := t.delay.isSome = true → s.delay = none ∧ t.pc = s.pc + 4

/-- A result that is a next state opens a slot in no other way. -/
def ResultOpens (s : State) (q : Result) : Prop := ∀ t, q = .next t → OpensSlot s t

section
variable {s t u : State} {r : Res State}

theorem opensSlot_of_none (h : t.delay = none) : OpensSlot s t := fun hsome => by
  rw [h] at hsome
  exact absurd hsome Bool.false_ne_true

theorem takeException_delay (e : Exc) (s : State) : (takeException e s).delay = none := (enters_takeException e s).delay

theorem opensSlot_finish (h : Gives (OpensSlot s) r) : ResultOpens s (finish s r) := by
  intro t ht
  rcases (finish_next s t r).mp ht with hr | ⟨e, -, rfl⟩
  · exact h t hr
  · exact opensSlot_of_none (takeException_delay e s)

/-- An instruction that is no branch leaves the delay slot it stands in, if any. -/
theorem opensSlot_complete : ResultOpens s (complete s r) :=
  opensSlot_finish (.bind fun u _ => .ok (opensSlot_of_none (retire_delay u)))

theorem branchTo_opensSlot (hpc : u.pc = s.pc) (hdelay : u.delay = s.delay) (target : Word) :
    Gives (OpensSlot s) (branchTo target u) := by
  unfold branchTo
  split
  · exact .stop _
  · next hnone => exact .ok fun _ => ⟨hdelay ▸ hnone, congrArg (· + 4) hpc⟩

theorem skipSlot_opensSlot (u : State) : Gives (OpensSlot s) (skipSlot u) := by
  unfold skipSlot
  split
  · exact .stop _
  · next hnone => exact .ok (opensSlot_of_none hnone)

theorem branchLikelyIf_opensSlot (hpc : u.pc = s.pc) (hdelay : u.delay = s.delay) (c : Bool) (offset : BitVec 16) :
    Gives (OpensSlot s) (branchLikelyIf c offset u) :=
  .ite (branchTo_opensSlot hpc hdelay _) (skipSlot_opensSlot u)

theorem returnFromException_delay (s : State) : (returnFromException s).delay = s.delay := by
  unfold returnFromException
  split <;> rfl

/-- ERET runs outside a delay slot alone, and opens none. -/
theorem eret_opensSlot (s : State) : ResultOpens s (execEret s) := by
  refine opensSlot_finish (.after (.bind fun _ hreq => .ok (opensSlot_of_none ?_)))
  rw [returnFromException_delay, ← Option.isNone_iff_eq_none]
  exact (require_ok _ _).mp hreq

theorem fpFinish_delay (q : FpResult) (write : Word → State → State) (s : State) :
    (fpFinish q write s).delay = none := by
  unfold fpFinish
  dsimp only
  split
  · exact takeException_delay _ _
  · exact retire_delay _

theorem writeControl_delay (fs : Reg) (v : Word32) (s : State) : (writeControl fs v s).delay = none := by
  unfold writeControl
  dsimp only
  split
  · split
    · exact takeException_delay _ _
    · exact retire_delay _
  · exact retire_delay _

theorem fpFinish_opensSlot (q : FpResult) (write : Word → State → State) :
    Gives (OpensSlot s) (.ok (fpFinish q write s)) := .ok (opensSlot_of_none (fpFinish_delay q write s))

end

/-- No instruction opens a slot but a branch outside one: every other one leaves control without a slot. -/
theorem exec_opensSlot (i : Instr) (s : State) : ResultOpens s (exec i s) := by
  cases i
  -- jumps and branches
  case j | jr | beq | bne | blez | bgtz | bltz | bgez => exact opensSlot_finish (branchTo_opensSlot rfl rfl _)
  case beql | bnel | blezl | bgtzl | bltzl | bgezl => exact opensSlot_finish (branchLikelyIf_opensSlot rfl rfl _ _)
  case jal => exact opensSlot_finish (branchTo_opensSlot (link_pc 31 s) (link_delay 31 s) _)
  case jalr rs rd => exact opensSlot_finish (.after (branchTo_opensSlot (link_pc rd s) (link_delay rd s) _))
  case bltzal | bgezal => exact opensSlot_finish (.after (branchTo_opensSlot (link_pc 31 s) (link_delay 31 s) _))
  case bltzall | bgezall =>
    exact opensSlot_finish (.after (branchLikelyIf_opensSlot (link_pc 31 s) (link_delay 31 s) _ _))
  case bc1f | bc1t => exact opensSlot_finish (.after (branchTo_opensSlot rfl rfl _))
  case bc1fl | bc1tl => exact opensSlot_finish (.after (branchLikelyIf_opensSlot rfl rfl _ _))
  -- control moves on, to a vector or to EPC
  case syscall | brk => exact opensSlot_finish (r := raise _) (.stop _)
  case eret => exact eret_opensSlot s
  case ctc1 => exact opensSlot_finish (.after (.ok (opensSlot_of_none (writeControl_delay _ _ s))))
  -- floating point
  case addS | addD | subS | subD | mulS | mulD | divS | divD =>
    exact opensSlot_finish (.after (.after (.after (.after (fpFinish_opensSlot _ _)))))
  case sqrtS | sqrtD | absS | absD | negS | negD | roundLS | roundLD | truncLS | truncLD | ceilLS | ceilLD | floorLS
      | floorLD | roundWS | roundWD | truncWS | truncWD | ceilWS | ceilWD | floorWS | floorWD | cvtSD | cvtSW | cvtSL
      | cvtDS | cvtDW | cvtDL | cvtWS | cvtWD | cvtLS | cvtLD
      | cFS | cUnS | cEqS | cUeqS | cOltS | cUltS | cOleS | cUleS | cSfS | cNgleS | cSeqS | cNglS | cLtS | cNgeS | cLeS
      | cNgtS | cFD | cUnD | cEqD | cUeqD | cOltD | cUltD | cOleD | cUleD | cSfD | cNgleD | cSeqD | cNglD | cLtD | cNgeD
      | cLeD | cNgtD =>
    exact opensSlot_finish (.after (.after (.after (fpFinish_opensSlot _ _))))
  -- no branch: what cannot stop, and the rest
  case slti | sltiu | andi | ori | xori | lui | and | or | xor | nor | slt | sltu | sll | sllv | mfhi | mflo | mthi
      | mtlo | sync => exact opensSlot_complete (r := .ok _)
  all_goals exact opensSlot_complete

/-- Settles O17: in the slot that an instruction opens, PC - 4 is the PC of that instruction; the rest is what the entry
of an exception saves. -/
theorem delaySlotExceptions : Obligations.DelaySlotExceptions := by
  unfold Obligations.DelaySlotExceptions
  refine ⟨fun i s t hexec hslot => ?slot, fun e s => ⟨fun hexl hout => ?outside, ?kept⟩, fun code s => ⟨rfl, rfl⟩⟩
  case slot =>
    obtain ⟨hout, hpc⟩ := exec_opensSlot i s t hexec hslot
    refine ⟨hout, hpc, fun hexl e => ?_⟩
    have hsaved := (enters_takeException e t).saved hexl
    rwa [hslot, if_pos rfl, hpc, add_sub_cancel_right] at hsaved
  case outside =>
    have hsaved := (enters_takeException e s).saved hexl
    rwa [hout] at hsaved
  case kept => exact (enters_takeException e s).kept

end Sys2Proof.Machine
end

section
/-! Proofs of the family 44_trap_system: the two answers of a trap, by its comparison as one of integers, natural numbers
or words; SYSCALL, BREAK, SYNC and CACHE (spec/44_trap_system.md R340 to R357). -/

namespace Sys2Proof.Machine

/-! ### Comparisons -/

section
variable {v w : Word}

theorem not_slt_iff : (!v.slt w) = true ↔ w.toInt ≤ v.toInt := by
  rw [← BitVec.sle_eq_not_slt, BitVec.sle_iff_toInt_le]

theorem not_ult_iff : (!v.ult w) = true ↔ w.toNat ≤ v.toNat := by
  rw [← BitVec.ule_eq_not_ult, BitVec.ule_iff_toNat_le]

end

/-! ### What a trap and what CACHE answer -/

section
variable {i : Instr} {s : State}

/-- A trap with the comparison c, which the statement words as P: it enters Trap or moves on
(spec/44_trap_system.md R340). -/
theorem answers_trapIf {c : Bool} {P : Prop} (hexec : exec i s = complete s (trapIf c s)) (hc : c = true ↔ P) :
    (P → Answers i s (Enters .trap s)) ∧ (¬ P → Answers i s (OnlyControl (nextPc s) none s)) := by
  refine ⟨fun hholds => ?_, fun hnot => ?_⟩
  · rw [hc.mpr hholds] at hexec
    exact answers_complete_error (require_false _) hexec
  · rw [← hc, Bool.not_eq_true] at hnot
    rw [hnot] at hexec
    exact answers_ignored hexec rfl

theorem ifCop0_intro {r : Res State} {X : Prop} (hexec : exec i s = complete s (requireCop0 s >>= fun _ => r))
    (h : exec i s = complete s r → X) : IfCop0 i s X := by
  refine ⟨fun husable => h ?_, fun hunusable => answers_complete_error hunusable.requireCop0 hexec⟩
  rw [hexec, husable.requireCop0, res_ok_bind]

/-- An instruction that checks an address and does nothing else moves on or enters the exception of the check
(spec/44_trap_system.md R357). -/
theorem answers_checked {α : Type} {x : Res α} (hexec : exec i s = complete s (x >>= fun _ => .ok s)) :
    (∀ a, x = .ok a → Answers i s (OnlyControl (nextPc s) none s)) ∧
      (∀ e, x = .error (.exc e) → Answers i s (fun t => Enters e s t ∧ Recorded e s t)) := by
  refine ⟨fun a ha => answers_ignored hexec ?_, fun e he => ?_⟩
  · rw [ha, res_ok_bind]
  · rw [he, res_error_bind] at hexec
    exact answers_of hexec ⟨_, complete_exc s e, enters_takeException e s, recorded_takeException e s⟩

end

/-! ### The statements on traps and system instructions -/

/-- Settles O19: SYSCALL and BREAK raise and do nothing before it; CACHE makes its two checks in turn. -/
theorem systemInstructions : Obligations.SystemInstructions := by
  unfold Obligations.SystemInstructions
  intro s code base op offset va
  refine ⟨?syscall, ?brk, ?sync, ifCop0_intro rfl fun hexec => ?cache⟩
  case syscall | brk => exact answers_of rfl (enters_of_error (raise_eq _))
  case sync => exact answers_ignored rfl rfl
  case cache => exact answers_checked hexec

/-- Settles O18: each trap is `trapIf` of its own comparison; the immediate is sign-extended, also where the comparison
is unsigned. -/
theorem trapInstructions : Obligations.TrapInstructions := by
  unfold Obligations.TrapInstructions
  intro s rs rt code imm x y z
  simp only [List.forall_mem_cons, List.not_mem_nil, false_implies, implies_true, and_true]
  rw [← toInt_signedImm imm]
  refine ⟨?tge, ?tgeu, ?tlt, ?tltu, ?teq, ?tne, ?tgei, ?tgeiu, ?tlti, ?tltiu, ?teqi, ?tnei⟩
  case tge | tgei => exact answers_trapIf rfl not_slt_iff
  case tgeu | tgeiu => exact answers_trapIf rfl not_ult_iff
  case tlt | tlti => exact answers_trapIf rfl BitVec.slt_iff_toInt_lt
  case tltu | tltiu => exact answers_trapIf rfl BitVec.ult_iff_toNat_lt
  case teq | teqi => exact answers_trapIf rfl beq_iff_eq
  case tne | tnei => exact answers_trapIf rfl bne_iff_ne

end Sys2Proof.Machine
end

section
/-! Proofs of the family 45_cop0: the registers as words and as numbers, their reads and their writes under the masks,
the TLB instructions and ERET (spec/45_cop0.md R365 to R374). -/

namespace Sys2Proof.Machine

/-! ### Each register as a number -/

theorem toNat_append_eq {m n : Nat} (x : BitVec m) (y : BitVec n) : (x ++ y).toNat = x.toNat * 2 ^ n + y.toNat := by
  rw [BitVec.toNat_append, ← Nat.shiftLeft_add_eq_or_of_lt y.isLt, Nat.shiftLeft_eq]

theorem ofNat_eq_word {m : Nat} {x : Word} (h : m = x.toNat) : BitVec.ofNat 64 m = x := by
  rw [h, BitVec.ofNat_toNat, BitVec.setWidth_eq]

theorem ofNat_eq_narrow {m : Nat} {x : Word32} (h : m = x.toNat) : BitVec.ofNat 64 m = narrow x := by
  rw [h, BitVec.ofNat_toNat, narrow]

theorem ofNat_eq_narrow_setWidth {w : Nat} (hw : w ≤ 32) (x : BitVec w) :
    BitVec.ofNat 64 x.toNat = narrow (x.setWidth 32) :=
  ofNat_eq_narrow (BitVec.toNat_setWidth_of_le hw).symm

theorem entryLoNumber_eq (r : EntryLo) : entryLoNumber r = (entryLoWord r).toNat := by
  simp only [entryLoWord, entryLoNumber, toNat_append_eq, BitVec.toNat_ofBool, BitVec.toNat_ofNat]
  omega

section
variable (c : Cp0)

theorem cop0Image_index : cop0Image 0 c = narrow (indexWord c.index) := by
  apply ofNat_eq_narrow
  simp only [indexWord, toNat_append_eq, BitVec.toNat_ofBool, BitVec.toNat_ofNat]
  omega

theorem cop0Image_entryLo0 : cop0Image 2 c = entryLoWord c.entryLo0 := ofNat_eq_word (entryLoNumber_eq _)

theorem cop0Image_entryLo1 : cop0Image 3 c = entryLoWord c.entryLo1 := ofNat_eq_word (entryLoNumber_eq _)

theorem cop0Image_context : cop0Image 4 c = contextWord c.context := by
  apply ofNat_eq_word
  simp only [contextWord, toNat_append_eq, BitVec.toNat_ofNat]
  omega

theorem cop0Image_pageMask : cop0Image 5 c = narrow (pageMaskWord c.pageMask) := by
  apply ofNat_eq_narrow
  simp only [pageMaskWord, toNat_append_eq, BitVec.toNat_ofNat]
  omega

theorem cop0Image_wired : cop0Image 6 c = narrow (c.wired.setWidth 32) := ofNat_eq_narrow_setWidth (by decide) _

theorem cop0Image_badVAddr : cop0Image 8 c = c.badVAddr := ofNat_eq_word rfl

theorem cop0Image_count : cop0Image 9 c = narrow c.count := ofNat_eq_narrow rfl

theorem cop0Image_entryHi : cop0Image 10 c = entryHiWord c.entryHi := by
  apply ofNat_eq_word
  simp only [entryHiWord, toNat_append_eq, BitVec.toNat_ofNat]
  omega

theorem cop0Image_compare : cop0Image 11 c = narrow c.compare := ofNat_eq_narrow rfl

theorem cop0Image_status : cop0Image 12 c = narrow c.status := ofNat_eq_narrow rfl

theorem cop0Image_cause : cop0Image 13 c = narrow (causeWord c.cause) := by
  apply ofNat_eq_narrow
  simp only [causeWord, toNat_append_eq, BitVec.toNat_ofBool, BitVec.toNat_ofNat]
  omega

theorem cop0Image_epc : cop0Image 14 c = c.epc := ofNat_eq_word rfl

theorem cop0Image_prid : cop0Image 15 c = narrow c.prid := ofNat_eq_narrow rfl

theorem cop0Image_config : cop0Image 16 c = narrow c.config := ofNat_eq_narrow rfl

theorem cop0Image_llAddr : cop0Image 17 c = narrow c.llAddr := ofNat_eq_narrow rfl

theorem cop0Image_watchLo : cop0Image 18 c = narrow c.watchLo := ofNat_eq_narrow rfl

theorem cop0Image_watchHi : cop0Image 19 c = narrow (c.watchHi.setWidth 32) := ofNat_eq_narrow_setWidth (by decide) _

theorem cop0Image_xcontext : cop0Image 20 c = xcontextWord c.xcontext := by
  apply ofNat_eq_word
  simp only [xcontextWord, toNat_append_eq, BitVec.toNat_ofNat]
  omega

theorem cop0Image_parityError : cop0Image 26 c = narrow (c.parityError.setWidth 32) :=
  ofNat_eq_narrow_setWidth (by decide) _

theorem cop0Image_tagLo : cop0Image 28 c = narrow c.tagLo := ofNat_eq_narrow rfl

theorem cop0Image_errorEpc : cop0Image 30 c = c.errorEpc := ofNat_eq_word rfl

end

/-! ### The 64-bit registers (spec/10_state.md R40) -/

theorem isWideCop0_iff : ∀ n : Reg, isWideCop0 n = true ↔ n.toNat ∈ [2, 3, 4, 8, 10, 14, 20, 30] := by decide

theorem layout_of_wide : ∀ n : Reg, isWideCop0 n = true → n.toNat ∉ [1, 7, 21, 22, 23, 24, 25, 31] := by decide

theorem ne_of_wide : ∀ n : Reg, isWideCop0 n = true → n.toNat ≠ 12 ∧ n.toNat ≠ 16 ∧ n.toNat ≠ 18 ∧ n.toNat ≠ 28 := by
  decide

/-! ### Reads -/

section
variable {n : Reg} {s : State}

/-- A register other than Random whose number is not reserved reads as its layout says, and nothing changes
(spec/45_cop0.md R366). -/
theorem cop0Read_layout (h : n.toNat ∉ [1, 7, 21, 22, 23, 24, 25, 31]) :
    cop0Read n s = (cop0Image n.toNat s.cp0, s) := by
  unfold cop0Read
  split
  case h_2 hn => exact absurd (by rw [hn]; decide) h
  -- the numbers listed are all of them
  case h_26 =>
    have hlt : n.toNat < 32 := n.isLt
    simp only [List.mem_cons, List.not_mem_nil, or_false, not_or] at h
    grind
  -- Cache Error and TagHi
  case h_22 hn | h_24 hn => rw [hn]; rfl
  all_goals
    next hn =>
      simp only [hn, cop0Image_index, cop0Image_entryLo0, cop0Image_entryLo1, cop0Image_context, cop0Image_pageMask,
        cop0Image_wired, cop0Image_badVAddr, cop0Image_count, cop0Image_entryHi, cop0Image_compare, cop0Image_status,
        cop0Image_cause, cop0Image_epc, cop0Image_prid, cop0Image_config, cop0Image_llAddr, cop0Image_watchLo,
        cop0Image_watchHi, cop0Image_xcontext, cop0Image_parityError, cop0Image_tagLo, cop0Image_errorEpc]

theorem cop0Read_random (h : n.toNat = 1) :
    cop0Read n s = (narrow ((drawRandom s).setWidth 32), (readRandom s).2) := by
  rw [cop0Read, h]
  rfl

theorem cop0Read_reserved (h : n.toNat ∈ [7, 21, 22, 23, 24, 25, 31]) : cop0Read n s = (drawn s, spendDraws 1 s) := by
  unfold cop0Read
  split
  case h_26 => rfl
  all_goals
    next hn =>
      rw [hn] at h
      exact absurd h (by decide)

theorem dmfc0Read_wide (h : isWideCop0 n = true) : dmfc0Read n s = (cop0Image n.toNat s.cp0, s) := by
  rw [dmfc0Read, if_pos h, cop0Read_layout (layout_of_wide n h)]

theorem dmfc0Read_word (h : isWideCop0 n = false) : dmfc0Read n s = (drawn s, spendDraws 1 s) := by
  rw [dmfc0Read, if_neg (ne_true_of_eq_false h)]

end

/-! ### Moves from coprocessor 0 -/

theorem sextWord_narrow_random (r : BitVec 6) : sextWord (lowWord (narrow (r.setWidth 32))) = r.setWidth 64 := by
  revert r
  decide

/-- The state after a draw is named by the draws it left; the write of a register and retiring keep them. -/
theorem onlyGpr_drawn (u : State) (rt : Reg) (v : Word) :
    OnlyGpr rt v { u with draws := (retire (writeGpr u rt v)).draws } (retire (writeGpr u rt v)) := by
  rw [retire_draws, writeGpr_draws]
  exact onlyGpr_writeGpr u rt v

/-- Settles O32: a register is read by its layout, Random by a draw from its range, a reserved number by a free draw. -/
theorem moveFromCop0 : Obligations.MoveFromCop0 := by
  unfold Obligations.MoveFromCop0
  intro s rt rd
  refine ifCop0_intro rfl fun hexec => ⟨fun hn => ?layout, fun hn hwired => ?random, fun hn => ?reserved⟩
  case layout =>
    rw [cop0Read_layout hn] at hexec
    exact answers_put hexec rfl
  case random =>
    rw [cop0Read_random hn] at hexec
    obtain ⟨hlow, hhigh⟩ := drawRandom_range s hwired
    refine answers_of hexec ⟨_, rfl, drawRandom s, hlow, hhigh, ?_⟩
    rw [← sextWord_narrow_random]
    exact onlyGpr_drawn (readRandom s).2 rt _
  case reserved =>
    rw [cop0Read_reserved hn] at hexec
    exact answers_of hexec ⟨_, rfl, _, onlyGpr_drawn (spendDraws 1 s) rt _⟩

/-! ### A write under a mask, field by field -/

theorem getLsbD_lowWord (v : Word) : ∀ k < 32, (lowWord v).getLsbD k = v.getLsbD (0 + k) := by
  intro k hk
  rw [lowWord, BitVec.getLsbD_setWidth, decide_eq_true hk, Bool.true_and, Nat.zero_add]

/-- The field that stands at bit `start` of a register took the bits of v where the mask has a 1, and kept its own where
the mask has a 0. -/
def FieldWritten (mask v : Word) (start : Nat) {n : Nat} (old new : BitVec n) : Prop :=
  ∀ k < n, new.getLsbD k = if mask.getLsbD (start + k) then v.getLsbD (start + k) else old.getLsbD k

namespace FieldWritten

section
variable {mask v : Word} {start n m : Nat} {old new : BitVec n}

theorem kept (hmask : ∀ k < n, mask.getLsbD (start + k) = false) : FieldWritten mask v start old old := by
  intro k hk
  rw [hmask k hk, if_neg Bool.false_ne_true]

theorem taken (hmask : ∀ k < n, mask.getLsbD (start + k) = true) :
    FieldWritten mask v start old (v.extractLsb' start n) := by
  intro k hk
  rw [hmask k hk, if_pos rfl, BitVec.getLsbD_extractLsb', decide_eq_true hk, Bool.true_and]

theorem bit {b : Bool} (hmask : mask.getLsbD start = true) :
    FieldWritten mask v start (BitVec.ofBool b) (BitVec.ofBool (v.getLsbD start)) := by
  intro k hk
  obtain rfl : k = 0 := Nat.lt_one_iff.mp hk
  rw [Nat.add_zero, hmask, if_pos rfl, BitVec.getLsbD_ofBool, decide_eq_true rfl, Bool.true_and]

/-- `part` is the mask at this field, and w is v there. -/
theorem merged {w part : BitVec n} (hmask : ∀ k < n, mask.getLsbD (start + k) = part.getLsbD k)
    (hw : ∀ k < n, w.getLsbD k = v.getLsbD (start + k)) :
    FieldWritten mask v start old ((old &&& ~~~part) ||| (w &&& part)) := by
  intro k hk
  rw [hmask k hk, BitVec.getLsbD_or, BitVec.getLsbD_and, BitVec.getLsbD_and, BitVec.getLsbD_not, decide_eq_true hk,
    hw k hk]
  cases part.getLsbD k <;> simp

theorem append {oldHigh newHigh : BitVec m} (hhigh : FieldWritten mask v (start + n) oldHigh newHigh)
    (hlow : FieldWritten mask v start old new) : FieldWritten mask v start (oldHigh ++ old) (newHigh ++ new) := by
  intro k hk
  rw [BitVec.getLsbD_append, BitVec.getLsbD_append]
  by_cases h : k < n
  · simpa only [h, if_true] using hlow k h
  · have hbit := hhigh (k - n) (by omega)
    rw [show start + n + (k - n) = start + k by omega] at hbit
    simpa only [h, if_false] using hbit

/-- A register of n bits under a mask of n bits, seen in a wider one. -/
theorem setWidth (h : FieldWritten mask v 0 old new) (hmask : ∀ k < m, n ≤ k → mask.getLsbD k = false) :
    FieldWritten mask v 0 (old.setWidth m) (new.setWidth m) := by
  intro k hk
  rw [BitVec.getLsbD_setWidth, BitVec.getLsbD_setWidth, decide_eq_true hk, Bool.true_and, Bool.true_and, Nat.zero_add]
  by_cases hn : k < n
  · rw [h k hn, Nat.zero_add]
  · have hle : n ≤ k := Nat.le_of_not_lt hn
    rw [hmask k hk hle, BitVec.getLsbD_of_ge new k hle, BitVec.getLsbD_of_ge old k hle, if_neg Bool.false_ne_true]

/-- The whole register. -/
theorem eq_merge {a b : Word} (h : FieldWritten mask v 0 a b) : b = (v &&& mask) ||| (a &&& ~~~mask) := by
  apply BitVec.eq_of_getLsbD_eq
  intro k hk
  rw [h k hk, Nat.zero_add, BitVec.getLsbD_or, BitVec.getLsbD_and, BitVec.getLsbD_and, BitVec.getLsbD_not,
    decide_eq_true hk]
  cases mask.getLsbD k <;> simp

/-- A 64-bit register, all of it writable. -/
theorem all {a : Word} (hmask : ∀ k < 64, mask.getLsbD k = true) : FieldWritten mask v 0 a v := by
  intro k hk
  rw [Nat.zero_add, hmask k hk, if_pos rfl]

end

section
variable {mask v : Word} {old part : Word32}

/-- A 32-bit register that keeps its bits outside the mask. -/
theorem lowMerged (hmask : mask = part.setWidth 64) :
    FieldWritten mask v 0 (narrow old) (narrow ((old &&& ~~~part) ||| (lowWord v &&& part))) := by
  subst hmask
  refine setWidth (merged (fun k hk => ?_) (getLsbD_lowWord v)) fun k hk hle => ?_
  · rw [Nat.zero_add, BitVec.getLsbD_setWidth, decide_eq_true (by omega), Bool.true_and]
  · rw [BitVec.getLsbD_setWidth, BitVec.getLsbD_of_ge part k hle, Bool.and_false]

/-- A 32-bit register with no bit outside the mask. -/
theorem lowMasked (hmask : mask = part.setWidth 64) (hold : old &&& ~~~part = 0#32) :
    FieldWritten mask v 0 (narrow old) (narrow (lowWord v &&& part)) := by
  have h := lowMerged (v := v) (old := old) hmask
  rwa [hold, BitVec.zero_or] at h

theorem low (hmask : mask = (BitVec.allOnes 32).setWidth 64) :
    FieldWritten mask v 0 (narrow old) (narrow (lowWord v)) := by
  have h := lowMasked (v := v) (old := old) hmask (by rw [BitVec.not_allOnes, BitVec.and_zero])
  rwa [BitVec.and_allOnes] at h

end

/-- A 32-bit register of one field of at most 32 bits at bit 0. -/
theorem lowField {mask v : Word} {w : Nat} {old : BitVec w} (hw : w ≤ 32)
    (hmask : mask = (BitVec.allOnes w).setWidth 64) :
    FieldWritten mask v 0 (narrow (old.setWidth 32)) (narrow ((v.extractLsb' 0 w).setWidth 32)) := by
  have hbit : ∀ k < 64, mask.getLsbD k = decide (k < w) := fun k hk => by
    rw [hmask, BitVec.getLsbD_setWidth, decide_eq_true hk, Bool.true_and, BitVec.getLsbD_allOnes]
  refine setWidth (setWidth (taken fun k hk => ?_) fun k hk hle => ?_) fun k hk hle => ?_
  · rw [Nat.zero_add, hbit k (by omega), decide_eq_true hk]
  · rw [hbit k (by omega), decide_eq_false (by omega)]
  · rw [hbit k hk, decide_eq_false (by omega)]

end FieldWritten

/-- Cause when its interrupt lines alone are written. -/
theorem FieldWritten.lines {mask v : Word} {r : Cause} {ip : BitVec 8} (h : FieldWritten mask v 8 r.ip ip)
    (hmask : mask &&& 0xFF00 = mask) :
    FieldWritten mask v 0 (narrow (causeWord r)) (narrow (causeWord { r with ip := ip })) := by
  have houter {k : Nat} (hk : (0xFF00 : Word).getLsbD k = false) : mask.getLsbD k = false := by
    rw [← hmask, BitVec.getLsbD_and, hk, Bool.and_false]
  have hkept {n start : Nat} (x : BitVec n) (hout : ∀ k < n, (0xFF00 : Word).getLsbD (start + k) = false) :
      FieldWritten mask v start x x := .kept fun k hk => houter (hout k hk)
  have habove : ∀ k < 64, 32 ≤ k → (0xFF00 : Word).getLsbD k = false := by decide
  refine .setWidth ?_ fun k hk hle => houter (habove k hk hle)
  exact .append (.append (.append (.append (.append (.append (.append (hkept _ (by decide)) (hkept _ (by decide)))
    (hkept _ (by decide))) (hkept _ (by decide))) h) (hkept _ (by decide))) (hkept _ (by decide))) (hkept _ (by decide))

/-! ### Writes -/

section
variable {n : Reg} {v : Word} {s t : State}

/-- Config.BE is writable (spec/10_state.md R55). -/
theorem getLsbD_writtenConfig (old v : Word32) :
    ((old &&& ~~~configMask) ||| (v &&& configMask)).getLsbD 15 = v.getLsbD 15 := by
  simp [configMask]

theorem writeConfig_of_be {v : Word32} (h : v.getLsbD 15 = true) (s : State) : writeConfig v s =
    .ok { s with cp0 := { s.cp0 with config := (s.cp0.config &&& ~~~configMask) ||| (v &&& configMask) } } := by
  rw [writeConfig, getLsbD_writtenConfig, h]
  rfl

theorem writeConfig_refused {v : Word32} (h : v.getLsbD 15 = false) (s : State) :
    writeConfig v s = .error (.refused .littleEndian) := by
  rw [writeConfig, getLsbD_writtenConfig, h]
  rfl

theorem writeConfig_ok {v : Word32} (h : writeConfig v s = .ok t) : writeConfig v s =
    .ok { s with cp0 := { s.cp0 with config := (s.cp0.config &&& ~~~configMask) ||| (v &&& configMask) } } := by
  cases hbe : v.getLsbD 15 with
  | true => exact writeConfig_of_be hbe s
  | false =>
    rw [writeConfig_refused hbe] at h
    cases h

/-- Only a write that clears Config.BE is refused. -/
theorem cop0Write_ok (h : n.toNat ≠ 16 ∨ v.getLsbD 15 = true) (s : State) : ∃ t, cop0Write n v s = .ok t := by
  unfold cop0Write
  dsimp only
  split
  case h_13 hn =>
    have hbe : (lowWord v).getLsbD 15 = true :=
      (getLsbD_lowWord v 15 (by decide)).trans (h.resolve_left (not_not.mpr hn))
    exact ⟨_, writeConfig_of_be hbe s⟩
  all_goals exact ⟨_, rfl⟩

theorem cop0Write_littleEndian (hn : n.toNat = 16) (h : v.getLsbD 15 = false) (s : State) :
    cop0Write n v s = .error (.refused .littleEndian) := by
  rw [cop0Write, hn]
  exact writeConfig_refused ((getLsbD_lowWord v 15 (by decide)).trans h) s

/-- A write stays in coprocessor 0: the timer's one-shot condition is not used. -/
theorem cop0Write_cp0 (h : cop0Write n v s = .ok t) : ∃ c, t = { s with cp0 := c } := by
  unfold cop0Write at h
  dsimp only at h
  split at h
  case' h_13 => rw [writeConfig_ok h] at h
  all_goals
    cases h
    exact ⟨_, rfl⟩

/-- A write changes its own register, with Wired also Random, and with Compare also Cause. -/
theorem cop0Write_others (h : cop0Write n v s = .ok t) {q : Nat} (hq : q ≠ n.toNat)
    (hrandom : ¬ (n.toNat = 6 ∧ q = 1)) (htimer : ¬ (n.toNat = 11 ∧ q = 13)) :
    cop0Image q t.cp0 = cop0Image q s.cp0 := by
  unfold cop0Write at h
  dsimp only at h
  split at h
  case' h_13 => rw [writeConfig_ok h] at h
  all_goals
    cases h
    unfold cop0Image
    split
    -- q is the register written, against hq
    all_goals try omega
    all_goals rfl

theorem cop0Write_random (h : cop0Write n v s = .ok t) (hn : n.toNat = 6) : t.cp0.random = 31 := by
  rw [cop0Write, hn] at h
  cases h
  rfl

/-- A write of Compare lowers IP7 (spec/60_exceptions.md R501). -/
theorem cop0Write_timer (h : cop0Write n v s = .ok t) (hn : n.toNat = 11) :
    cop0Image 13 t.cp0 = cop0Image 13 s.cp0 &&& ~~~0x8000 := by
  rw [cop0Write, hn] at h
  cases h
  have hline : FieldWritten 0x8000 0 8 s.cp0.cause.ip (s.cp0.cause.ip &&& 0x7F) := by
    have h7 := FieldWritten.merged (mask := 0x8000) (v := 0) (start := 8) (old := s.cp0.cause.ip) (w := 0#8)
      (part := 0x80#8) (by decide) (by decide)
    rwa [BitVec.zero_and, BitVec.or_zero] at h7
  rw [cop0Image_cause, cop0Image_cause]
  exact (hline.lines rfl).eq_merge.trans (by rw [BitVec.ofNat_eq_ofNat, BitVec.zero_and, BitVec.zero_or])

/-- The bits of Status, WatchLo and TagLo that no write can set are 0, when the register is the one numbered n. -/
structure ReservedZero (n : Nat) (c : Cp0) : Prop where
  status : n = 12 → c.status &&& ~~~statusMask = 0#32
  watchLo : n = 18 → c.watchLo &&& ~~~0xFFFFFFFB#32 = 0#32
  tagLo : n = 28 → c.tagLo &&& ~~~0x0FFFFFC0#32 = 0#32

theorem Inv.reservedZero (hs : Inv s) (n : Nat) : ReservedZero n s.cp0 where
  status _ := hs.status
  watchLo _ := by
    rw [show ~~~0xFFFFFFFB#32 = BitVec.twoPow 32 2 from rfl, BitVec.and_twoPow, hs.watchLo, if_neg Bool.false_ne_true]
  tagLo _ := hs.tagLo

theorem reservedZero_of_wide (h : isWideCop0 n = true) (c : Cp0) : ReservedZero n.toNat c := by
  obtain ⟨hstatus, -, hwatchLo, htagLo⟩ := ne_of_wide n h
  exact ⟨fun hn => absurd hn hstatus, fun hn => absurd hn hwatchLo, fun hn => absurd hn htagLo⟩

/-- EntryLo0 or EntryLo1 (spec/10_state.md R43). -/
theorem entryLo_written (r : EntryLo) : FieldWritten 0x3FFFFFFF v 0 (entryLoWord r) (entryLoWord (entryLoOf v)) :=
  .append (.append (.append (.append (.append (.kept (by decide)) (.taken (by decide))) (.taken (by decide)))
    (.bit (by decide))) (.bit (by decide))) (.bit (by decide))

/-- The writable lines of Cause are the two lowest (spec/10_state.md R51). -/
theorem softwareLines_written (ip : BitVec 8) :
    FieldWritten (cop0Mask 13) v 8 ip ((ip &&& 0xFC) ||| (v.extractLsb' 8 2).setWidth 8) := by
  intro k hk
  simp only [BitVec.getLsbD_or, BitVec.getLsbD_and, BitVec.getLsbD_setWidth, BitVec.getLsbD_extractLsb', cop0Mask]
  interval_cases k <;> simp

theorem cop0Write_written (h : cop0Write n v s = .ok t) (hs : ReservedZero n.toNat s.cp0) :
    FieldWritten (cop0Mask n.toNat) v 0 (cop0Image n.toNat s.cp0) (cop0Image n.toNat t.cp0) := by
  unfold cop0Write at h
  dsimp only at h
  split at h
  case' h_13 => rw [writeConfig_ok h] at h
  -- registers that cannot be written
  case h_21 =>
    cases h
    have hmask : cop0Mask n.toNat = 0 := by simp [cop0Mask, *]
    rw [hmask]
    exact .kept (by decide)
  all_goals
    rename_i hn
    cases Except.ok.inj h
    rw [hn] at hs ⊢
    simp only [cop0Image_index, cop0Image_entryLo0, cop0Image_entryLo1, cop0Image_context, cop0Image_pageMask,
      cop0Image_wired, cop0Image_count, cop0Image_entryHi, cop0Image_compare, cop0Image_status, cop0Image_cause,
      cop0Image_epc, cop0Image_config, cop0Image_llAddr, cop0Image_watchLo, cop0Image_watchHi, cop0Image_xcontext,
      cop0Image_parityError, cop0Image_tagLo, cop0Image_errorEpc]
  -- Index
  case h_1 =>
    exact .setWidth (.append (.append (.bit (by decide)) (.kept (by decide))) (.taken (by decide))) (by decide)
  case h_2 | h_3 => exact entryLo_written _
  -- Context
  case h_4 => exact .append (.append (.taken (by decide)) (.kept (by decide))) (.kept (by decide))
  -- PageMask
  case h_5 =>
    exact .setWidth (.append (.append (.kept (by decide)) (.taken (by decide))) (.kept (by decide))) (by decide)
  -- EntryHi
  case h_8 =>
    exact .append (.append (.append (.append (.taken (by decide)) (.kept (by decide))) (.taken (by decide)))
      (.kept (by decide))) (.taken (by decide))
  -- XContext
  case h_17 =>
    exact .append (.append (.append (.taken (by decide)) (.kept (by decide))) (.kept (by decide))) (.kept (by decide))
  -- Wired, WatchHi and Parity Error
  case h_6 | h_16 | h_18 => exact .lowField (by decide) rfl
  -- Count, Compare and LLAddr
  case h_7 | h_9 | h_14 => exact .low rfl
  case h_10 => exact .lowMasked rfl (hs.status rfl)
  case h_15 => exact .lowMasked rfl (hs.watchLo rfl)
  case h_19 => exact .lowMasked rfl (hs.tagLo rfl)
  -- Cause
  case h_11 => exact (softwareLines_written _).lines rfl
  -- EPC and ErrorEPC
  case h_12 | h_20 => exact .all (by decide)
  -- Config
  case h_13 => exact .lowMerged rfl

theorem onlyCop0_retire (h : cop0Write n v s = .ok t) (hs : ReservedZero n.toNat s.cp0) :
    OnlyCop0 n.toNat v s (retire t) := by
  obtain ⟨c, hc⟩ := cop0Write_cp0 h
  have hcontrol := onlyControl_retire t
  constructor
  case written =>
    rw [retire_cp0]
    exact (cop0Write_written h hs).eq_merge
  case random =>
    rw [retire_cp0]
    exact cop0Write_random h
  case timer =>
    rw [retire_cp0]
    exact cop0Write_timer h
  case others =>
    rw [retire_cp0]
    exact fun _ => cop0Write_others h
  case delay => exact hcontrol.delay
  all_goals subst hc
  case pc => exact hcontrol.pc
  case memory => exact hcontrol.memory
  case rest => exact congrArg (fun u : State => { u with cp0 := s.cp0 }) hcontrol.rest

end

/-! ### Moves to coprocessor 0, and the moves of doublewords -/

theorem answers_cop0Write {i : Instr} {n : Reg} {v : Word} {s : State} (hexec : exec i s = complete s (cop0Write n v s))
    (h : n.toNat ≠ 16 ∨ v.getLsbD 15 = true) (hs : ReservedZero n.toNat s.cp0) :
    Answers i s (OnlyCop0 n.toNat v s) := by
  obtain ⟨t, ht⟩ := cop0Write_ok h s
  rw [ht] at hexec
  exact answers_of hexec ⟨_, rfl, onlyCop0_retire ht hs⟩

/-- Settles O33: each register's fields take or keep their bits as its mask says; the invariant gives the bits of
Status, WatchLo and TagLo outside it. -/
theorem moveToCop0 : Obligations.MoveToCop0 := by
  unfold Obligations.MoveToCop0
  intro s rt rd hinv v
  refine ifCop0_intro rfl fun hexec => ⟨fun hbe => ?written, fun hn hbe => ?refused⟩
  case written => exact answers_cop0Write hexec hbe (hinv.reservedZero _)
  case refused => exact hexec.trans (congrArg (complete s) (cop0Write_littleEndian hn hbe s))

theorem dmtc0Write_wide {n : Reg} (h : isWideCop0 n = true) (v : Word) (s : State) :
    dmtc0Write n v s = cop0Write n v s := if_pos h

theorem dmtc0Write_fixed {n : Reg} (h : n.toNat ∈ [1, 7, 15, 21, 22, 23, 24, 25, 27, 29, 31]) (v : Word) (s : State) :
    dmtc0Write n v s = .ok s := by
  have hfixed : ∀ n : Reg, n.toNat ∈ [1, 7, 15, 21, 22, 23, 24, 25, 27, 29, 31] → isWideCop0 n = false ∧
      (isReservedCop0 n || n == 1 || n == 15 || n == 27 || n == 29) = true := by decide
  obtain ⟨hwide, hignored⟩ := hfixed n h
  rw [dmtc0Write, if_neg (ne_true_of_eq_false hwide), if_pos hignored]

theorem dmtc0Write_word {n : Reg} (hwide : isWideCop0 n = false)
    (h : n.toNat ∉ [1, 7, 15, 21, 22, 23, 24, 25, 27, 29, 31]) (v : Word) (s : State) :
    dmtc0Write n v s = .error (.refused .dmtc0OfWordRegister) := by
  have hword : ∀ n : Reg, n.toNat ∉ [1, 7, 15, 21, 22, 23, 24, 25, 27, 29, 31] →
      (isReservedCop0 n || n == 1 || n == 15 || n == 27 || n == 29) = false := by decide
  rw [dmtc0Write, if_neg (ne_true_of_eq_false hwide), if_neg (ne_true_of_eq_false (hword n h)), refuse_eq]

/-- Settles O34: a 64-bit register is read and written as MFC0 and MTC0 do, without the cut to a word. -/
theorem doubleMovesOfCop0 : Obligations.DoubleMovesOfCop0 := by
  unfold Obligations.DoubleMovesOfCop0
  intro s rt rd wide fixed
  have hwide : wide ↔ isWideCop0 rd = true := (isWideCop0_iff rd).symm
  have hword : ¬ wide → isWideCop0 rd = false := fun h => Bool.of_not_eq_true (mt hwide.mpr h)
  refine ⟨ifCop0_intro rfl fun hcop0 => if64_intro hcop0 fun hexec => ?read,
    ifCop0_intro rfl fun hcop0 => if64_intro hcop0 fun hexec => ?write⟩
  case read =>
    refine ⟨fun h => ?wide, fun h => ?word⟩
    case wide =>
      rw [dmfc0Read_wide (hwide.mp h)] at hexec
      exact answers_put hexec rfl
    case word =>
      rw [dmfc0Read_word (hword h)] at hexec
      exact answers_of hexec ⟨_, rfl, _, onlyGpr_drawn (spendDraws 1 s) rt _⟩
  case write =>
    refine ⟨fun h => ?wide, fun h => ?fixed, fun hn h => ?word⟩
    case wide =>
      rw [dmtc0Write_wide (hwide.mp h)] at hexec
      obtain ⟨-, hconfig, -, -⟩ := ne_of_wide rd (hwide.mp h)
      exact answers_cop0Write hexec (.inl hconfig) (reservedZero_of_wide (hwide.mp h) _)
    case fixed => exact answers_ignored hexec (dmtc0Write_fixed h _ s)
    case word => rw [hexec, dmtc0Write_word (hword hn) h, complete_refused]

/-! ### The TLB instructions -/

section
variable {i : Instr} {s u : State}

/-- An instruction that leaves u, with control where it was. -/
theorem answers_onlyControl (hexec : exec i s = complete s (.ok u)) (h : nextPc u = nextPc s) :
    Answers i s (OnlyControl (nextPc s) none u) :=
  h ▸ answers_of hexec ⟨_, rfl, onlyControl_retire u⟩

/-- The same after a draw. -/
theorem answers_onlyControl_drawn (hexec : exec i s = complete s (.ok u)) (h : nextPc u = nextPc s) :
    Answers i s (fun t => OnlyControl (nextPc s) none { u with draws := t.draws } t) := by
  refine answers_of hexec ⟨_, rfl, ?_⟩
  rw [retire_draws, ← h]
  exact onlyControl_retire u

end

theorem readTlb_ok {i : BitVec 6} (h : i.toNat < 32) (s : State) : readTlb i s = .ok s.tlb[i.toNat] := by
  rw [readTlb, Vector.getElem?_eq_getElem h]

theorem readTlb_outOfRange {i : BitVec 6} (h : 32 ≤ i.toNat) (s : State) :
    readTlb i s = .error (.refused .indexOutOfRange) := by
  rw [readTlb, Vector.getElem?_eq_none h, refuse_eq]

theorem setIfInBounds_eq_set {α : Type} {n k : Nat} (xs : Vector α n) (h : k < n) (x : α) :
    xs.setIfInBounds k x = xs.set k x h := by
  ext j hj
  rw [Vector.getElem_setIfInBounds, Vector.getElem_set]

/-! ### The probe -/

/-- EntryHi keeps its fields through its word. -/
theorem entryHiOf_entryHiWord (r : EntryHi) : entryHiOf (entryHiWord r) = r := by
  have hword : (entryHiWord r).toNat = r.r.toNat * 2 ^ 62 + r.vpn2.toNat * 2 ^ 13 + r.asid.toNat := by
    simp only [entryHiWord, toNat_append_eq, BitVec.toNat_ofNat]
    omega
  have hfield (start len : Nat) (x : BitVec len) (h : (entryHiWord r).toNat / 2 ^ start % 2 ^ len = x.toNat) :
      (entryHiWord r).extractLsb' start len = x := by
    apply BitVec.eq_of_toNat_eq
    rw [BitVec.extractLsb'_toNat, Nat.shiftRight_eq_div_pow, h]
  rw [hword] at hfield
  rw [entryHiOf, hfield 62 2 r.r (by omega), hfield 13 27 r.vpn2 (by omega), hfield 0 8 r.asid (by omega)]

section
variable {s : State}

/-- The probe looks for the entries of the address that EntryHi is, read as one. -/
theorem matchingEntries_entryHi : matchingEntries s s.cp0.entryHi.r s.cp0.entryHi.vpn2 s.cp0.entryHi.asid =
    entriesFor (entryHiWord s.cp0.entryHi) s := by
  have hfields := entryHiOf_entryHiWord s.cp0.entryHi
  have hr : (entryHiWord s.cp0.entryHi).extractLsb' 62 2 = s.cp0.entryHi.r := congrArg EntryHi.r hfields
  have hvpn2 : (entryHiWord s.cp0.entryHi).extractLsb' 13 27 = s.cp0.entryHi.vpn2 := congrArg EntryHi.vpn2 hfields
  rw [entriesFor, hr, hvpn2]

theorem tlbMatches_entryHi (e : TlbEntry) : TlbMatches e (entryHiWord s.cp0.entryHi) s ↔
    e.r = s.cp0.entryHi.r ∧ (e.g = true ∨ e.asid = s.cp0.entryHi.asid) ∧
      ∀ k < 27, e.mask.getLsbD k = true ∨ e.vpn2.getLsbD k = s.cp0.entryHi.vpn2.getLsbD k := by
  have hfields := entryHiOf_entryHiWord s.cp0.entryHi
  have hr : (entryHiWord s.cp0.entryHi).extractLsb' 62 2 = s.cp0.entryHi.r := congrArg EntryHi.r hfields
  have hvpn2 : ∀ k < 27, (entryHiWord s.cp0.entryHi).getLsbD (13 + k) = s.cp0.entryHi.vpn2.getLsbD k := fun k hk => by
    rw [← congrArg EntryHi.vpn2 hfields, entryHiOf, BitVec.getLsbD_extractLsb', decide_eq_true hk, Bool.true_and]
  rw [TlbMatches, hr, and_comm (b := _ ∨ _)]
  refine and_congr_right' (and_congr_right' (forall₂_congr fun k hk => ?_))
  rw [hvpn2 k hk]

end

theorem exists_cons_cons {α : Type} {a b : α} {l : List α} (hne : a ≠ b) (ha : a ∈ l) (hb : b ∈ l) :
    ∃ x y rest, l = x :: y :: rest := by
  match l with
  | [] => exact absurd ha List.not_mem_nil
  | [x] => exact absurd ((List.mem_singleton.mp ha).trans (List.mem_singleton.mp hb).symm) hne
  | x :: y :: rest => exact ⟨x, y, rest, rfl⟩

/-- Settles O35: Index and Random are numbers of entries or the instruction is refused, and the probe has no member, one
or several. -/
theorem tlbInstructions : Obligations.TlbInstructions := by
  unfold Obligations.TlbInstructions
  intro s c n entry probed
  refine ⟨ifCop0_intro rfl fun hexec => ⟨fun h => ?read, fun h => ?readRefused⟩,
    ifCop0_intro rfl fun hexec => ⟨fun h => ?write, fun h => ?writeRefused⟩,
    ifCop0_intro rfl fun hexec => ⟨fun h => ?random, fun h => ?randomRefused⟩,
    ifCop0_intro rfl fun hexec => ?probe⟩
  case read =>
    rw [readTlb_ok h] at hexec
    exact answers_onlyControl hexec rfl
  case readRefused => rw [hexec, readTlb_outOfRange h, res_error_bind, complete_refused]
  case write =>
    rw [decide_eq_true (Nat.le_of_lt_succ h), require_true, res_ok_bind, setIfInBounds_eq_set _ h] at hexec
    exact answers_onlyControl hexec rfl
  case writeRefused =>
    rw [hexec, decide_eq_false (Nat.not_le_of_lt h), require_false, res_error_bind, complete_refused]
  case random =>
    obtain ⟨hlow, hhigh⟩ := drawRandom_range s h
    have hlt : (drawRandom s).toNat < 32 := Nat.lt_succ_of_le hhigh
    have hdrawn : exec .tlbwr s = complete s (.ok { (readRandom s).2 with
        tlb := s.tlb.set (drawRandom s).toNat (entryFromRegs c) hlt }) := by
      rw [hexec, decide_eq_true h, require_true, res_ok_bind, ← setIfInBounds_eq_set]
      rfl
    obtain ⟨t, ht, honly⟩ := answers_onlyControl_drawn hdrawn rfl
    exact ⟨t, ht, drawRandom s, hlt, hlow, honly⟩
  case randomRefused =>
    rw [hexec, decide_eq_false (Nat.not_le_of_lt h), require_false, res_error_bind, complete_refused]
  case probe =>
    have hprobed : ∀ e, probed e ↔ TlbMatches e (entryHiWord c.entryHi) s := fun e => (tlbMatches_entryHi e).symm
    rw [matchingEntries_entryHi] at hexec
    simp only [hprobed]
    refine ⟨fun hnone => ?absent, fun i hone => ?found, fun i j hij hi hj => ?several⟩
    case absent =>
      rw [entriesFor_eq_nil hnone] at hexec
      obtain ⟨t, ht, honly⟩ := answers_onlyControl_drawn hexec rfl
      exact ⟨t, ht, _, honly⟩
    case found =>
      rw [entriesFor_eq_singleton hone] at hexec
      exact answers_onlyControl hexec rfl
    case several =>
      obtain ⟨x, y, rest, hmany⟩ := exists_cons_cons hij (mem_entriesFor.mpr hi) (mem_entriesFor.mpr hj)
      rw [hexec, hmany]
      rfl

/-! ### The return from an exception -/

/-- Settles O36: outside a delay slot ERET is `returnFromException`, which asks Status.ERL alone. -/
theorem returnFromException_holds : Obligations.ReturnFromException := by
  unfold Obligations.ReturnFromException
  intro s
  refine ⟨fun husable hdelay => ?_, cop0_unusable (by simp [encode])⟩
  have hexec : exec .eret s = .next (returnFromException s) :=
    finish_after husable.requireCop0 (finish_after (by rw [hdelay]; rfl) rfl)
  rw [hexec, returnFromException]
  exact ⟨fun herl => congrArg _ (if_pos herl), fun herl => congrArg _ (if_neg (ne_true_of_eq_false herl))⟩

end Sys2Proof.Machine
end

section
/-! Proofs of the family 46_fpu: how a floating-point operation ends, and what arithmetic, conversions, compares, moves,
branches, loads and stores of the unit answer (spec/46_fpu.md R390 to R413; spec/47_fpu_arith.md R415 to R436). -/

namespace Sys2Proof.Machine

/-! ### FCR31 (spec/46_fpu.md R394) -/

section
variable {f : Word32} {cause : BitVec 6}

theorem fcrSetCause_eq (f : Word32) (cause : BitVec 6) : fcrSetCause f cause = causeReplaced f cause := rfl

theorem fcrAddFlags_fcrSetCause (f : Word32) (cause : BitVec 6) :
    fcrAddFlags (fcrSetCause f cause) cause = causeAndFlags f cause := rfl

theorem fcrTraps_iff : fcrTraps cause (fcrEnable f) = true ↔ Traps f cause := by
  have hbits : cause.extractLsb' 0 5 &&& fcrEnable f ≠ 0 ↔
      ∃ k < 5, cause.getLsbD k = true ∧ f.getLsbD (7 + k) = true := by
    constructor
    · intro hne
      by_contra hnone
      apply hne
      apply BitVec.eq_of_getLsbD_eq
      intro k hk
      have hk' := not_exists.mp hnone k
      simp only [fcrEnable, BitVec.getLsbD_and, BitVec.getLsbD_extractLsb', hk]
      grind
    · rintro ⟨k, hk, hcause, henable⟩ hzero
      have hbit := congrArg (BitVec.getLsbD · k) hzero
      simp [fcrEnable, hk, hcause, henable] at hbit
  rw [fcrTraps, Bool.or_eq_true, bne_iff_ne, hbits, Traps]

theorem fcrSetCond_eq (f : Word32) (c : Bool) :
    fcrSetCond f c = if c then f ||| 0x00800000 else f &&& 0xFF7FFFFF := by
  cases c
  · simp [fcrSetCond]
  · simp only [fcrSetCond, if_true]
    ext k hk
    simp only [BitVec.getElem_or, BitVec.getElem_and, BitVec.getElem_not]
    cases (0x00800000#32)[k] <;> simp_all

end

/-! ### The tests before a floating-point operation -/

section
variable {i : Instr} {s : State} {r : Res State} {X : Prop} {f : Reg} {regs : List Reg}

theorem ifCop1_finish (hexec : exec i s = finish s (requireCop1 s >>= fun _ => r)) (h : exec i s = finish s r → X) :
    IfCop1 i s X := by
  refine ⟨fun husable => h ?_, fun hunusable => answers_finish_error (requireCop1_error s hunusable) hexec⟩
  rw [hexec, requireCop1_ok s husable, res_ok_bind]

theorem ifFloat_nil (h : X) : IfFloat [] i s X := ⟨fun _ => h, fun ⟨_, hmem, _⟩ => absurd hmem List.not_mem_nil⟩

/-- The registers are tested in the order of the list (spec/46_fpu.md R391). -/
theorem ifFloat_cons (hexec : exec i s = finish s (requireFloat s f >>= fun _ => r))
    (h : exec i s = finish s r → IfFloat regs i s X) : IfFloat (f :: regs) i s X := by
  by_cases hvalid : s.cp0.status.getLsbD 26 = true ∨ f.toNat % 2 = 0
  · rw [requireFloat_ok hvalid, res_ok_bind] at hexec
    obtain ⟨hall, hodd⟩ := h hexec
    refine ⟨fun hregs => hall fun q hq => hregs q (List.mem_cons_of_mem f hq), ?_⟩
    rintro ⟨q, hq, hfr, hq2⟩
    rcases List.mem_cons.mp hq with rfl | hq
    · rw [hfr, hq2] at hvalid
      simp at hvalid
    · exact hodd ⟨q, hq, hfr, hq2⟩
  · refine ⟨fun hregs => absurd (hregs f List.mem_cons_self) hvalid, fun _ => ?_⟩
    obtain ⟨hfr, hodd⟩ := not_or.mp hvalid
    rw [hexec, requireFloat_error (Bool.eq_false_of_not_eq_true hfr) (Nat.mod_two_ne_zero.mp hodd)]
    rfl

end

/-! ### FpFinish (spec/46_fpu.md R394) -/

theorem onlyCond_writeCond (v : Word) (s : State) : OnlyCond (v == 1) s (retire (writeCond v s)) where
  cond := by rw [retire_fcr31]; exact fcrSetCond_eq s.fcr31 (v == 1)
  pc := retire_nextPc (writeCond v s)
  delay := retire_delay _
  memory a := by simp [memByte, writeCond]
  rest := congrArg (fun t : State => { t with fcr31 := s.fcr31 }) (onlyControl_retire (writeCond v s)).rest

theorem onlyF32_writeFp (fd : Reg) (v : Word) (s : State) :
    OnlyF32 fd (v.setWidth 32) s (retire (writeFp .s fd v s)) := onlyF32_writeF32 s fd (lowWord v)

theorem onlyCell_writeFp (fd : Reg) (v : Word) (s : State) : OnlyCell fd v s (retire (writeFp .d fd v s)) :=
  onlyCell_writeCell s fd v

section
variable {i : Instr} {s : State} {r : FpResult} {write : Word → State → State} {done : Word → State → State → Prop}
  {fs ft fd : Reg} (hdone : ∀ v u, done v u (retire (write v u)))
include hdone

theorem answers_fpFinish (hexec : exec i s = finish s (.ok (fpFinish r write s))) :
    (Traps s.fcr31 r.cause → Answers i s (Enters .floatingPoint { s with fcr31 := causeReplaced s.fcr31 r.cause })) ∧
      (¬ Traps s.fcr31 r.cause → Answers i s (done r.value { s with fcr31 := causeAndFlags s.fcr31 r.cause })) := by
  refine ⟨fun htraps => answers_of hexec ⟨_, ?_, enters_takeException _ _⟩,
    fun hnot => answers_of hexec ⟨_, ?_, hdone r.value _⟩⟩
  · rw [fpFinish, if_pos (fcrTraps_iff.mpr htraps), fcrSetCause_eq]
    rfl
  · rw [fpFinish, if_neg (mt fcrTraps_iff.mp hnot), fcrAddFlags_fcrSetCause]
    rfl

/-- An operation that names two registers. -/
theorem fpAnswers_two (hexec : exec i s = finish s (do
      requireCop1 s
      requireFloat s fs
      requireFloat s fd
      pure (fpFinish r write s))) : FpAnswers i s [fs, fd] r done :=
  ifCop1_finish hexec fun h => ifFloat_cons h fun h => ifFloat_cons h fun h => ifFloat_nil (answers_fpFinish hdone h)

/-- An operation that names three registers. -/
theorem fpAnswers_three (hexec : exec i s = finish s (do
      requireCop1 s
      requireFloat s fs
      requireFloat s ft
      requireFloat s fd
      pure (fpFinish r write s))) : FpAnswers i s [fs, ft, fd] r done :=
  ifCop1_finish hexec fun h => ifFloat_cons h fun h => ifFloat_cons h fun h => ifFloat_cons h fun h =>
    ifFloat_nil (answers_fpFinish hdone h)

end

/-! ### The statements on arithmetic, conversions and compares -/

/-- Settles O41: each instruction tests its registers and hands its result to FpFinish. -/
theorem floatArithmetic : Obligations.FloatArithmetic := by
  unfold Obligations.FloatArithmetic
  intro s ft fs fd env single double word long
  simp only [List.forall_mem_cons, List.not_mem_nil, false_implies, implies_true, and_true]
  refine ⟨⟨?addS, ?subS, ?mulS, ?divS⟩, ⟨?addD, ?subD, ?mulD, ?divD⟩,
    ⟨?sqrtS, ?absS, ?negS, ?cvtSD, ?cvtSW, ?cvtSL⟩, ?sqrtD, ?absD, ?negD, ?cvtDS, ?cvtDW, ?cvtDL⟩
  case addS | subS | mulS | divS => exact fpAnswers_three (onlyF32_writeFp fd) rfl
  case addD | subD | mulD | divD => exact fpAnswers_three (onlyCell_writeFp fd) rfl
  case sqrtS | absS | negS | cvtSD | cvtSW | cvtSL => exact fpAnswers_two (onlyF32_writeFp fd) rfl
  case sqrtD | absD | negD | cvtDS | cvtDW | cvtDL => exact fpAnswers_two (onlyCell_writeFp fd) rfl

/-- Settles O42: the same for the conversions to fixed point, each with its own direction of rounding. -/
theorem floatToFixed : Obligations.FloatToFixed := by
  unfold Obligations.FloatToFixed
  intro s fs fd rm a b
  simp only [List.forall_mem_cons, List.not_mem_nil, false_implies, implies_true, and_true]
  refine ⟨⟨?roundWS, ?truncWS, ?ceilWS, ?floorWS, ?cvtWS, ?roundWD, ?truncWD, ?ceilWD, ?floorWD, ?cvtWD⟩,
    ?roundLS, ?truncLS, ?ceilLS, ?floorLS, ?cvtLS, ?roundLD, ?truncLD, ?ceilLD, ?floorLD, ?cvtLD⟩
  case roundWS | truncWS | ceilWS | floorWS | cvtWS | roundWD | truncWD | ceilWD | floorWD | cvtWD =>
    exact fpAnswers_two (onlyF32_writeFp fd) rfl
  case roundLS | truncLS | ceilLS | floorLS | cvtLS | roundLD | truncLD | ceilLD | floorLD | cvtLD =>
    exact fpAnswers_two (onlyCell_writeFp fd) rfl

/-- Settles O44: a compare writes by FpFinish the condition bit alone. -/
theorem floatCompares : Obligations.FloatCompares := by
  unfold Obligations.FloatCompares
  intro s ft fs word done
  simp only [List.forall_mem_cons, List.not_mem_nil, false_implies, implies_true, and_true]
  refine ⟨⟨?f, ?un, ?eq, ?ueq, ?olt, ?ult, ?ole, ?ule, ?sf, ?ngle, ?seq, ?ngl, ?lt, ?nge, ?le, ?ngt⟩,
    ?fD, ?unD, ?eqD, ?ueqD, ?oltD, ?ultD, ?oleD, ?uleD, ?sfD, ?ngleD, ?seqD, ?nglD, ?ltD, ?ngeD, ?leD, ?ngtD⟩
  all_goals exact fpAnswers_two onlyCond_writeCond rfl

/-! ### Branches -/

theorem answers_condBranch {i : Instr} {s : State} {offset : BitVec 16} {c : Bool} (hout : s.delay = none)
    (hexec : exec i s = finish s (branchIf c offset s)) :
    (c = true → Answers i s (OnlyControl (s.pc + 4) (some (targetOf s offset)) s)) ∧
      (c = false → Answers i s (OnlyControl (s.pc + 4) (some (s.pc + 8)) s)) := by
  rw [← Bool.not_eq_true]
  exact answers_branchIf (transfers_self hout) hexec .rfl

theorem answers_condBranchLikely {i : Instr} {s : State} {offset : BitVec 16} {c : Bool} (hout : s.delay = none)
    (hexec : exec i s = finish s (branchLikelyIf c offset s)) :
    (c = true → Answers i s (OnlyControl (s.pc + 4) (some (targetOf s offset)) s)) ∧
      (c = false → Answers i s (OnlyControl (s.pc + 8) none s)) := by
  rw [← Bool.not_eq_true]
  exact answers_branchLikelyIf (transfers_self hout) hexec .rfl

/-- Settles O40: after the test of CU1 each branch is `branchIf` or `branchLikelyIf` on the condition bit. -/
theorem floatBranches : Obligations.FloatBranches := by
  unfold Obligations.FloatBranches
  intro s offset hout c
  simp only [List.forall_mem_cons, List.not_mem_nil, false_implies, implies_true, and_true]
  refine ⟨⟨?bc1f, ?bc1t⟩, ?bc1fl, ?bc1tl⟩
  case bc1f | bc1t => exact ifCop1_finish rfl (answers_condBranch hout)
  case bc1fl | bc1tl => exact ifCop1_finish rfl (answers_condBranchLikely hout)

/-! ### Moves -/

theorem readControl_fcr0 {fs : Reg} (h : fs.toNat = 0) (s : State) : readControl fs s = (sextWord s.fcr0, s) :=
  if_pos (BitVec.eq_of_toNat_eq h)

theorem readControl_fcr31 {fs : Reg} (h : fs.toNat = 31) (s : State) : readControl fs s = (sextWord s.fcr31, s) := by
  obtain rfl : fs = 31 := BitVec.eq_of_toNat_eq h
  rfl

/-- A control register that does not exist reads any value (spec/46_fpu.md R403). -/
theorem readControl_none {fs : Reg} (h0 : fs.toNat ≠ 0) (h31 : fs.toNat ≠ 31) (s : State) :
    readControl fs s = (drawn s, spendDraws 1 s) := by
  rw [readControl, if_neg (fun h => h0 (congrArg BitVec.toNat h)), if_neg (fun h => h31 (congrArg BitVec.toNat h))]

/-- A write of FCR31 by CTC1, both ways (spec/46_fpu.md R404). -/
theorem writeControl_fcr31 {fs : Reg} (h : fs.toNat = 31) (v : Word32) (s : State) :
    let f := v &&& fcr31Mask
    (¬ Traps f (fcrCause f) → writeControl fs v s = retire { s with fcr31 := f }) ∧
      (Traps f (fcrCause f) → writeControl fs v s = takeException .floatingPoint { s with fcr31 := f }) := by
  obtain rfl : fs = 31 := BitVec.eq_of_toNat_eq h
  exact ⟨fun hnot => if_neg (mt fcrTraps_iff.mp hnot), fun htraps => if_pos (fcrTraps_iff.mpr htraps)⟩

theorem writeControl_other {fs : Reg} (h : fs.toNat ≠ 31) (v : Word32) (s : State) :
    writeControl fs v s = retire s := if_neg fun heq => h (congrArg BitVec.toNat heq)

/-- An instruction that is no branch, as its effect and retiring in turn. -/
theorem complete_bind {α : Type} (s : State) (x : Res α) (g : α → Res State) :
    complete s (x >>= g) = finish s (x >>= fun a => g a >>= fun t => .ok (retire t)) := by
  cases x <;> rfl

theorem require_and_bind (a b : Bool) (stop : Stop) (r : Res State) :
    (require (a && b) stop >>= fun _ => r) = (require a stop >>= fun _ => require b stop >>= fun _ => r) := by
  cases a <;> rfl

theorem lowWord_setWidth (v : Word32) : lowWord (v.setWidth 64) = v := by
  rw [lowWord, BitVec.setWidth_setWidth_of_le _ (by decide), BitVec.setWidth_eq]

/-- What MOV.fmt does to FCR31 before its write: the Cause bits take a free value (log 26). -/
def causeDrawn (s : State) : State := { s with fcr31 := fcrSetCause s.fcr31 ((drawn s).extractLsb' 0 6) }

theorem exec_movS (fs fd : Reg) (s : State) : exec (.movS fs fd) s =
    complete s (requireCop1 s >>= fun _ => .ok (writeF32 (spendDraws 1 (causeDrawn s)) fd (readF32 s fs))) :=
  congrArg (fun v => complete s (requireCop1 s >>= fun _ => .ok (writeF32 (spendDraws 1 (causeDrawn s)) fd v)))
    (lowWord_setWidth (readF32 s fs))

theorem exec_movD (fs fd : Reg) (s : State) : exec (.movD fs fd) s =
    finish s (do
      requireCop1 s
      requireFloat s fs
      requireFloat s fd
      pure (retire (writeCell (spendDraws 1 (causeDrawn s)) fd (cell s fs)))) := by
  have hexec : exec (.movD fs fd) s = complete s (requireCop1 s >>= fun _ =>
      require (validF64 s fs && validF64 s fd) (.refused .oddFloatRegister) >>= fun _ =>
      .ok (writeCell (spendDraws 1 (causeDrawn s)) fd (cell s fs))) := rfl
  rw [hexec, require_and_bind, complete_bind]
  simp only [bind_assoc]
  rfl

/-- Settles O39: each move is one read and one write after its tests; CTC1 writes FCR31 before it asks whether to
raise. -/
theorem floatMoves : Obligations.FloatMoves := by
  unfold Obligations.FloatMoves
  intro s rt fs fd v f
  refine ⟨ifCop1_intro rfl fun hexec => ?mfc1, ifCop1_intro rfl fun hexec => ifFloat_intro hexec fun hexec => ?dmfc1,
    ifCop1_intro rfl fun hexec => ?mtc1, ifCop1_intro rfl fun hexec => ifFloat_intro hexec fun hexec => ?dmtc1,
    ifCop1_intro (r := .ok (writeGpr (readControl fs s).2 rt (readControl fs s).1)) rfl fun hexec => ?cfc1,
    ifCop1_finish (r := .ok (writeControl fs v s)) rfl fun hexec => ?ctc1,
    ifCop1_intro (exec_movS fs fd s) fun hexec => ?movS,
    ifCop1_finish (exec_movD fs fd s) fun hexec => ifFloat_cons hexec fun hexec => ifFloat_cons hexec fun hexec =>
      ifFloat_nil ?movD⟩
  case mfc1 | dmfc1 => exact answers_put hexec rfl
  case mtc1 => exact answers_of hexec ⟨_, rfl, onlyF32_writeF32 s fs v⟩
  case dmtc1 => exact answers_of hexec ⟨_, rfl, onlyCell_writeCell s fs _⟩
  case cfc1 =>
    refine ⟨fun h => ?fcr0, fun h => ?fcr31, fun h0 h31 => ?none⟩
    case fcr0 =>
      rw [readControl_fcr0 h] at hexec
      exact answers_put hexec rfl
    case fcr31 =>
      rw [readControl_fcr31 h] at hexec
      exact answers_put hexec rfl
    case none =>
      rw [readControl_none h0 h31] at hexec
      exact answers_of hexec ⟨_, rfl, _, onlyGpr_drawn (spendDraws 1 s) rt _⟩
  case ctc1 =>
    refine ⟨fun h hnot => ?write, fun h htraps => ?trap, fun h => ?other⟩
    case write =>
      rw [(writeControl_fcr31 h v s).1 hnot] at hexec
      exact answers_of hexec ⟨_, rfl, onlyControl_retire { s with fcr31 := f }⟩
    case trap =>
      rw [(writeControl_fcr31 h v s).2 htraps] at hexec
      exact answers_of hexec ⟨_, rfl, enters_takeException _ _⟩
    case other =>
      rw [writeControl_other h] at hexec
      exact answers_of hexec ⟨_, rfl, onlyControl_retire s⟩
  case movS =>
    have hdrawn : SameButDraws (causeDrawn s) (spendDraws 1 (causeDrawn s)) := rfl
    exact answers_of hexec ⟨_, rfl, _, onlyF32_of_draws hdrawn (onlyF32_writeF32 _ fd _)⟩
  case movD =>
    have hdrawn : SameButDraws (causeDrawn s) (spendDraws 1 (causeDrawn s)) := rfl
    exact answers_of hexec ⟨_, rfl, _, onlyCell_of_draws hdrawn⟩

/-! ### Loads and stores -/

theorem evenReg_of_odd : ∀ i : Reg, i.toNat % 2 = 1 → evenReg i = BitVec.ofNat 5 (i.toNat - 1) := by decide

theorem extractLsb'_low (v : Word) : v.extractLsb' 0 32 = v.setWidth 32 := by
  rw [BitVec.setWidth_eq_extractLsb' (by decide)]

theorem extractLsb'_high (v : Word) : v.extractLsb' 32 32 = BitVec.ofNat 32 (v.toNat / 2 ^ 32) := by
  rw [BitVec.extractLsb', Nat.shiftRight_eq_div_pow]

section
variable {s : State} {i : Reg}

theorem readF32_low (h : s.cp0.status.getLsbD 26 = true ∨ i.toNat % 2 = 0) : readF32 s i = (cell s i).setWidth 32 := by
  rw [readF32, fr, statusFr, isOdd_eq, ← extractLsb'_low]
  rcases h with h | h <;> simp [h]

/-- With FR = 0 an odd register is the high half of the even cell below it (spec/10_state.md R31). -/
theorem readF32_high (hfr : s.cp0.status.getLsbD 26 = false) (hodd : i.toNat % 2 = 1) :
    readF32 s i = BitVec.ofNat 32 ((cell s (BitVec.ofNat 5 (i.toNat - 1))).toNat / 2 ^ 32) := by
  rw [readF32, fr, statusFr, isOdd_eq, hfr, evenReg_of_odd i hodd, extractLsb'_high]
  simp [hodd]

end

/-- All floating-point cells are kept, with what is recorded of their halves (spec/10_state.md R33). -/
structure CellsKept (s t : State) : Prop where
  bits : t.fgr = s.fgr
  low : t.fgrLowFr = s.fgrLowFr
  high : t.fgrHighFr = s.fgrHighFr

theorem CellsKept.trans {s t u : State} (h : CellsKept s t) (h' : CellsKept t u) : CellsKept s u :=
  ⟨h'.bits.trans h.bits, h'.low.trans h.low, h'.high.trans h.high⟩

theorem takeException_cellsKept (e : Exc) (s : State) : CellsKept s (takeException e s) := by
  have hrest := (enters_takeException e s).rest
  exact ⟨congrArg (·.fgr) hrest, congrArg (·.fgrLowFr) hrest, congrArg (·.fgrHighFr) hrest⟩

theorem mtc0_cellsKept {r n : Reg} {s t : State} (h : exec (.mtc0 r n) s = .next t) : CellsKept s t := by
  rcases (complete_next s t _).mp h with ⟨u, hu, rfl⟩ | ⟨e, -, rfl⟩
  · obtain ⟨-, -, hwrite⟩ := (res_bind_ok _ _ u).mp hu
    obtain ⟨c, rfl⟩ := cop0Write_cp0 hwrite
    exact ⟨retire_fgr _, retire_fgrLowFr _, retire_fgrHighFr _⟩
  · exact takeException_cellsKept e s

/-- A cell reads as its contents again when FR is what it was (spec/10_state.md R33; log 39). -/
theorem CellsKept.cell {s u : State} (h : CellsKept s u) (hfr : fr u = fr s) {i : Reg}
    (hlow : s.fgrLowFr[i.toNat]'(i.isLt) = fr s) (hhigh : s.fgrHighFr[i.toNat]'(i.isLt) = fr s) :
    cell u i = cell s i := by
  rw [cell_eq s i hlow hhigh, cell_eq u i (by simp only [h.low, hlow, hfr]) (by simp only [h.high, hhigh, hfr])]
  simp only [h.bits]

/-- The bytes of a 32-bit register as digits of its number. -/
theorem bytesOf_setWidth (n : Nat) (v : Word32) : bytesOf n (v.setWidth 64) =
    (List.range n).map fun i => BitVec.ofNat 8 (v.toNat / 2 ^ (8 * (n - 1 - i))) := by
  rw [bytesOf_eq, BitVec.toNat_setWidth_of_le (by decide)]

theorem answers_loadPlain {i : Instr} {align n : Nat} {va : Word} {p : PAddr} {s u : State}
    {g : Word × State → Res State} {Q : State → Prop} (hexec : exec i s = complete s (loadBytes align 0 n va s >>= g))
    (hp : dataAddress false align va s = .ok p) (hn : 0 < n) (h : PlainRead p n s)
    (hg : g (numberAt p n s, s) = .ok u) (hQ : Q (retire u)) : Answers i s Q := by
  rw [loadBytes_plain hp (BitVec.sub_zero p) hn h, res_ok_bind, hg] at hexec
  exact answers_of hexec ⟨_, complete_ok s u, hQ⟩

/-- Settles O38: the views are halves of a cell, and the accesses are those of plain memory after the tests of the
unit. -/
theorem floatLoadsAndStores : Obligations.FloatLoadsAndStores := by
  unfold Obligations.FloatLoadsAndStores
  refine ⟨fun s i => ⟨cell_eq s i, readF32_low, readF32_high⟩, fun s t u r q ht hu hfr i hlow hhigh => ?kept,
    fun s base ft offset p => ⟨ifCop1_intro rfl fun hexec hp h => ?lwc1,
      ifCop1_intro rfl fun hexec => ifFloat_intro hexec fun hexec hp h => ?ldc1,
      ifCop1_intro rfl fun hexec hp h => ?swc1,
      ifCop1_intro rfl fun hexec => ifFloat_intro hexec fun hexec hp h => ?sdc1⟩⟩
  case kept => exact ((mtc0_cellsKept ht).trans (mtc0_cellsKept hu)).cell hfr hlow hhigh
  case lwc1 => exact answers_loadPlain hexec hp (by decide) h rfl (onlyF32_writeF32 s ft _)
  case ldc1 => exact answers_loadPlain hexec hp (by decide) h rfl (onlyCell_writeCell s ft _)
  case swc1 => exact answers_store hexec hp (BitVec.sub_zero p) h (bytesOf_setWidth 4 _)
  case sdc1 => exact answers_store hexec hp (BitVec.sub_zero p) h (bytesOf_eq 8 _)

end Sys2Proof.Machine
end

section
/-! Proofs of the family 46_fpu: rounding to an integer, by the bits that were cut off as the model does it, and over an
ordered field as the statements word it (spec/47_fpu_arith.md R396, R423). -/

namespace Sys2Proof.Machine

/-! ### Magnitudes with a sign -/

/-- A magnitude with a sign. -/
def signedBy {K : Type} [Field K] (neg : Bool) (m : K) : K := if neg then -m else m

section
variable {K : Type} [Field K]

@[simp] theorem signedBy_true (m : K) : signedBy true m = -m := rfl
@[simp] theorem signedBy_false (m : K) : signedBy false m = m := rfl

theorem cast_signedInt (neg : Bool) (n : Nat) : ((signedInt neg n : Int) : K) = signedBy neg (n : K) := by
  cases neg <;> simp [signedInt]

theorem signedBy_mul_right (neg : Bool) (m c : K) : signedBy neg m * c = signedBy neg (m * c) := by
  cases neg <;> simp

theorem signedBy_inj (neg : Bool) {m m' : K} : signedBy neg m = signedBy neg m' ↔ m = m' := by
  cases neg <;> simp

end

section
variable {K : Type} [Field K] [LinearOrder K]

theorem abs_signedBy_sub (neg : Bool) (m m' : K) : |signedBy neg m - signedBy neg m'| = |m - m'| := by
  cases neg
  · rfl
  · rw [signedBy_true, signedBy_true, neg_sub_neg, abs_sub_comm]

/-! ### What was cut off -/

/-- t is the fraction that was cut off: the bits `rem` over `2 * half`, and a little more when `sticky`. -/
structure CutOff (t : K) (rem half : Nat) (sticky : Bool) : Prop where
  nonneg : 0 ≤ t
  lt_one : t < 1
  zero : t = 0 ↔ rem = 0 ∧ sticky = false
  tie : t = 1 / 2 ↔ rem = half ∧ sticky = false
  above : 1 / 2 < t ↔ half < rem ∨ (rem = half ∧ sticky = true)

/-! ### The direction of a rounding, by the fraction -/

theorem rounding_modes : ∀ mode : BitVec 2, mode = 0 ∨ mode = 1 ∨ mode = 2 ∨ mode = 3 := by decide

section
variable {t : K} {rem half : Nat} {sticky : Bool} (h : CutOff t rem half sticky) (neg odd : Bool)
include h

theorem CutOff.inexact_iff : (decide (rem ≠ 0) || sticky) = true ↔ t ≠ 0 := by
  rw [ne_eq t, h.zero, Bool.or_eq_true, decide_eq_true_iff, not_and_or, Bool.not_eq_false]

theorem roundsAway_nearest : roundsAway 0 neg odd rem half sticky = true ↔ 1 / 2 < t ∨ (t = 1 / 2 ∧ odd = true) := by
  rw [h.above, h.tie]
  simp only [roundsAway, if_true, Bool.or_eq_true, Bool.and_eq_true, decide_eq_true_iff]
  grind

theorem roundsAway_up : roundsAway 2 neg odd rem half sticky = true ↔ t ≠ 0 ∧ neg = false := by
  rw [← h.inexact_iff, ← Bool.not_eq_true', ← Bool.and_eq_true]
  rfl

theorem roundsAway_down : roundsAway 3 neg odd rem half sticky = true ↔ t ≠ 0 ∧ neg = true := by
  rw [← h.inexact_iff, ← Bool.and_eq_true]
  rfl

end

theorem roundsAway_zero (neg odd : Bool) (rem half : Nat) (sticky : Bool) :
    roundsAway 1 neg odd rem half sticky = false := rfl

end

section
variable {K : Type} [Field K] [LinearOrder K] [IsStrictOrderedRing K]

theorem abs_signedBy (neg : Bool) {m : K} (h : 0 ≤ m) : |signedBy neg m| = m := by
  cases neg <;> simp [abs_of_nonneg h]

theorem signedBy_neg_iff (neg : Bool) {m : K} (h : 0 < m) : signedBy neg m < 0 ↔ neg = true := by
  cases neg
  · simp [h.le]
  · simp [h]

/-! ### Bits below a cut -/

theorem cutOff_nothing : CutOff (0 : K) 0 1 false where
  nonneg := le_rfl
  lt_one := one_pos
  zero := by simp
  tie := by simp
  above := by simp

/-- An integer and less than one more, against another integer. -/
theorem add_fraction_eq_iff {rem n : Nat} {sticky : Bool} {δ : K} (h0 : 0 ≤ δ) (h1 : δ < 1)
    (hsticky : sticky = true ↔ δ ≠ 0) : rem + δ = n ↔ rem = n ∧ sticky = false := by
  rw [← Bool.not_eq_true, hsticky, not_not]
  constructor
  · intro h
    have hle : rem ≤ n := by
      have : (rem : K) ≤ n := by linarith
      exact_mod_cast this
    have hlt : n < rem + 1 := by
      have : (n : K) < rem + 1 := by linarith
      exact_mod_cast this
    obtain rfl : rem = n := by omega
    exact ⟨rfl, by linarith⟩
  · rintro ⟨rfl, rfl⟩
    exact add_zero _

theorem lt_add_fraction_iff {rem n : Nat} {sticky : Bool} {δ : K} (h0 : 0 ≤ δ) (h1 : δ < 1)
    (hsticky : sticky = true ↔ δ ≠ 0) : (n : K) < rem + δ ↔ n < rem ∨ (rem = n ∧ sticky = true) := by
  rw [hsticky]
  constructor
  · intro h
    have hlt : n < rem + 1 := by
      have : (n : K) < rem + 1 := by linarith
      exact_mod_cast this
    rcases (Nat.lt_succ_iff_lt_or_eq.mp hlt) with hn | rfl
    · exact .inl hn
    · exact .inr ⟨rfl, (pos_of_lt_add_right h).ne'⟩
  · rintro (h | ⟨rfl, h⟩)
    · have : (n : K) < rem := mod_cast h
      linarith
    · exact lt_add_of_pos_right _ (lt_of_le_of_ne h0 (Ne.symm h))

/-- The bits below a cut, with δ more below them. -/
theorem cutOff_bits {rem half : Nat} {sticky : Bool} {δ : K} (hrem : rem < 2 * half) (h0 : 0 ≤ δ) (h1 : δ < 1)
    (hsticky : sticky = true ↔ δ ≠ 0) : CutOff ((rem + δ) / (2 * half)) rem half sticky := by
  have hhalf : (0 : K) < half := Nat.cast_pos.mpr (by omega)
  have hrem' : (rem : K) + 1 ≤ 2 * half := mod_cast hrem
  constructor
  case nonneg => positivity
  case lt_one => exact (div_lt_one (by positivity)).mpr (by linarith)
  case zero =>
    rw [div_eq_zero_iff, or_iff_left (by positivity)]
    exact_mod_cast add_fraction_eq_iff (n := 0) h0 h1 hsticky
  case tie =>
    rw [div_eq_div_iff (by positivity) two_ne_zero, one_mul, mul_comm, mul_right_inj' two_ne_zero]
    exact add_fraction_eq_iff h0 h1 hsticky
  case above =>
    rw [div_lt_div_iff₀ two_pos (by positivity), one_mul, mul_comm, mul_lt_mul_iff_left₀ two_pos]
    exact lt_add_fraction_iff h0 h1 hsticky

/-! ### Rounding an integer and a fraction -/

theorem signedInt_even (neg : Bool) (n : Nat) : signedInt neg n % 2 = 0 ↔ n % 2 = 0 := by
  cases neg <;> simp only [signedInt] <;> grind

/-- The nearest integer, and the even one of two that are equally near. -/
theorem nearestEven_eq [FloorRing K] {x : K} {n : Int} (h : |x - n| < 1 / 2 ∨ (|x - n| = 1 / 2 ∧ n % 2 = 0)) :
    nearestEven x = n := by
  have hle := Int.floor_le x
  have hlt := Int.lt_floor_add_one x
  have hnear : |x - n| ≤ 1 / 2 := h.elim le_of_lt fun h => h.1.le
  obtain ⟨hlow, hhigh⟩ := abs_le.mp hnear
  have hn : n = ⌊x⌋ ∨ n = ⌊x⌋ + 1 := by
    have h1 : ⌊x⌋ < n + 1 := by
      have : (⌊x⌋ : K) < n + 1 := by linarith
      exact_mod_cast this
    have h2 : n < ⌊x⌋ + 2 := by
      have : (n : K) < ⌊x⌋ + 2 := by linarith
      exact_mod_cast this
    omega
  rw [nearestEven]
  rcases hn with rfl | rfl
  · rw [abs_of_nonneg (sub_nonneg.mpr hle)] at h
    grind
  · rw [abs_of_neg (by push_cast; linarith)] at h
    push_cast at h
    grind

section
variable [FloorRing K] {t : K} (h0 : 0 ≤ t) (h1 : t < 1)
include h0 h1

theorem floor_add_fraction (k : Nat) : ⌊(k : K) + t⌋ = k := by
  rw [Int.floor_natCast_add, Int.floor_eq_zero_iff.mpr ⟨h0, h1⟩, add_zero]

theorem ceil_add_fraction (k : Nat) : ⌈(k : K) + t⌉ = if t = 0 then (k : Int) else k + 1 := by
  rw [Int.ceil_natCast_add]
  split
  · next h => rw [h, Int.ceil_zero, add_zero]
  · next h =>
    rw [Int.ceil_eq_iff (z := 1) |>.mpr ⟨by simpa using lt_of_le_of_ne h0 (Ne.symm h), by simpa using h1.le⟩]

/-- Rounding to nearest, ties to even, is the same for both signs. -/
theorem nearestEven_signedBy (neg : Bool) (k : Nat) : nearestEven (signedBy neg (k + t)) =
    signedInt neg (if 1 / 2 < t ∨ (t = 1 / 2 ∧ k % 2 = 1) then k + 1 else k) := by
  apply nearestEven_eq
  rw [cast_signedInt, abs_signedBy_sub, signedInt_even]
  split
  · next h =>
    push_cast
    rw [add_sub_add_left_eq_sub, abs_sub_comm, abs_of_pos (by linarith)]
    rcases h with h | ⟨rfl, hodd⟩
    · exact .inl (by linarith)
    · exact .inr ⟨by norm_num, by omega⟩
  · next h =>
    rw [add_sub_cancel_left, abs_of_nonneg h0]
    rcases lt_trichotomy t (1 / 2) with hlt | heq | hgt
    · exact .inl hlt
    · exact .inr ⟨heq, by grind⟩
    · exact absurd (.inl hgt) h

theorem ceil_signedBy (neg : Bool) (k : Nat) :
    ⌈signedBy neg (k + t)⌉ = signedInt neg (if t ≠ 0 ∧ neg = false then k + 1 else k) := by
  cases neg
  · rw [signedBy_false, ceil_add_fraction h0 h1]
    simp only [signedInt]
    grind
  · rw [signedBy_true, Int.ceil_neg, floor_add_fraction h0 h1]
    simp [signedInt]

theorem floor_signedBy (neg : Bool) (k : Nat) :
    ⌊signedBy neg (k + t)⌋ = signedInt neg (if t ≠ 0 ∧ neg = true then k + 1 else k) := by
  cases neg
  · rw [signedBy_false, floor_add_fraction h0 h1]
    simp [signedInt]
  · rw [signedBy_true, Int.floor_neg, ceil_add_fraction h0 h1]
    simp only [signedInt]
    grind

theorem truncated_signedBy (neg : Bool) (k : Nat) :
    (if 0 ≤ signedBy neg (k + t) then ⌊signedBy neg (k + t)⌋ else ⌈signedBy neg (k + t)⌉) = signedInt neg k := by
  have hk : (0 : K) ≤ k := k.cast_nonneg
  rw [floor_signedBy h0 h1, ceil_signedBy h0 h1]
  cases neg
  · simp [add_nonneg hk h0]
  · by_cases ht : t = 0
    · simp [ht]
    · have hpos : 0 < k + t := add_pos_of_nonneg_of_pos hk (lt_of_le_of_ne h0 (Ne.symm ht))
      rw [if_neg (by rw [signedBy_true, not_le]; exact neg_lt_zero.mpr hpos)]
      simp

end

/-- The rounding of the statements is the rounding by the bits cut off (spec/47_fpu_arith.md R396, R423). -/
theorem roundedTo_signedBy [FloorRing K] {t : K} {rem half : Nat} {sticky : Bool} (h : CutOff t rem half sticky)
    (mode : BitVec 2) (neg : Bool) (k : Nat) : roundedTo mode (signedBy neg (k + t)) =
      signedInt neg (if roundsAway mode neg (k % 2 == 1) rem half sticky then k + 1 else k) := by
  have h0 := h.nonneg
  have h1 := h.lt_one
  rcases rounding_modes mode with rfl | rfl | rfl | rfl
  case inl =>
    simp only [roundsAway_nearest h, beq_iff_eq]
    exact nearestEven_signedBy h0 h1 neg k
  case inr.inl =>
    rw [roundsAway_zero]
    exact truncated_signedBy h0 h1 neg k
  case inr.inr.inl =>
    simp only [roundsAway_up h]
    exact ceil_signedBy h0 h1 neg k
  case inr.inr.inr =>
    simp only [roundsAway_down h]
    exact floor_signedBy h0 h1 neg k

theorem CutOff.not_roundsAway {rem half : Nat} {sticky : Bool} (h : CutOff (0 : K) rem half sticky) (mode : BitVec 2)
    (neg odd : Bool) : roundsAway mode neg odd rem half sticky = false := by
  rw [← Bool.not_eq_true]
  rcases rounding_modes mode with rfl | rfl | rfl | rfl
  · rw [roundsAway_nearest h]
    simp
  · rw [roundsAway_zero]
    simp
  · rw [roundsAway_up h]
    simp
  · rw [roundsAway_down h]
    simp

/-- A rounding is exact when nothing was cut off. -/
theorem roundedTo_exact_iff [FloorRing K] {t : K} {rem half : Nat} {sticky : Bool} (h : CutOff t rem half sticky)
    (mode : BitVec 2) (neg : Bool) (k : Nat) :
    ((roundedTo mode (signedBy neg (k + t)) : Int) : K) = signedBy neg (k + t) ↔ t = 0 := by
  rw [roundedTo_signedBy h, cast_signedInt, signedBy_inj]
  constructor
  · intro heq
    have h0 := h.nonneg
    have h1 := h.lt_one
    split at heq
    · push_cast at heq
      linarith
    · linarith
  · rintro rfl
    rw [h.not_roundsAway]
    simp

end

end Sys2Proof.Machine
end

section
/-! Proofs of the family 46_fpu: the fields, classes and values of the formats (spec/46_fpu.md R393), and conversions to
fixed point (spec/47_fpu_arith.md R423). -/

namespace Sys2Proof.Machine

/-! ### Classes and values -/

/-- A zero or a normal number. -/
def IsFinite (f : Fmt) (v : Word) : Prop := fpClass f v = .zero ∨ fpClass f v = .normal

section
variable {f : Fmt} {v : Word}

theorem fpClass_zero_iff : fpClass f v = .zero ↔ fpExp f v = 0 ∧ fpFrac f v = 0 := by
  unfold fpClass
  split_ifs <;> simp_all

theorem fpClass_normal_iff : fpClass f v = .normal ↔ fpExp f v ≠ 0 ∧ fpExp f v ≠ f.expOnes := by
  unfold fpClass
  split_ifs <;> simp_all

theorem fpClass_infinity_iff : fpClass f v = .infinity ↔ fpExp f v = f.expOnes ∧ fpFrac f v = 0 := by
  have hones : 0 ≠ f.expOnes := by cases f <;> decide
  unfold fpClass
  split_ifs <;> simp_all

theorem fpFrac_lt (f : Fmt) (v : Word) : fpFrac f v < 2 ^ (f.precision - 1) := by
  cases f <;> exact BitVec.isLt _

/-- The value of a finite pattern from its exact parts. -/
theorem fpReal_eq (h : IsFinite f v) :
    fpReal f v = signedBy (fpSign f v) (((fpValue f v).sig : ℚ) * 2 ^ (fpValue f v).exp) := by
  rcases h with h | h
  · obtain ⟨hexp, hfrac⟩ := fpClass_zero_iff.mp h
    simp [fpReal, fpValue, hexp, hfrac, signedBy]
  · obtain ⟨hexp, -⟩ := fpClass_normal_iff.mp h
    simp only [fpReal, fpValue, if_neg hexp]
    rfl

theorem fpValue_sig_zero (h : fpClass f v = .zero) : (fpValue f v).sig = 0 := if_pos (fpClass_zero_iff.mp h).1

/-- A normal number has as many significant bits as the format holds. -/
theorem fpValue_sig_normal (h : fpClass f v = .normal) :
    2 ^ (f.precision - 1) ≤ (fpValue f v).sig ∧ (fpValue f v).sig < 2 ^ f.precision := by
  have hsig : (fpValue f v).sig = 2 ^ (f.precision - 1) + fpFrac f v := if_neg (fpClass_normal_iff.mp h).1
  have hfrac := fpFrac_lt f v
  have hp : 2 ^ f.precision = 2 * 2 ^ (f.precision - 1) := by cases f <;> rfl
  omega

theorem fpValue_sig_pos (h : fpClass f v = .normal) : 0 < (fpValue f v).sig :=
  lt_of_lt_of_le (by positivity) (fpValue_sig_normal h).1

theorem fpReal_zero (h : fpClass f v = .zero) : fpReal f v = 0 := by
  rw [fpReal_eq (.inl h), fpValue_sig_zero h]
  simp [signedBy]

theorem fpReal_normal_ne (h : fpClass f v = .normal) : fpReal f v ≠ 0 := by
  have hsig : ((fpValue f v).sig : ℚ) ≠ 0 := Nat.cast_ne_zero.mpr (fpValue_sig_pos h).ne'
  rw [fpReal_eq (.inr h), ← abs_ne_zero, abs_signedBy _ (by positivity)]
  positivity

theorem IsFinite.fpReal_eq_zero_iff (h : IsFinite f v) : fpReal f v = 0 ↔ fpClass f v = .zero :=
  ⟨fun hzero => h.resolve_right fun hnormal => fpReal_normal_ne hnormal hzero, fpReal_zero⟩

theorem IsFinite.normal_of_ne (h : IsFinite f v) (hne : fpReal f v ≠ 0) : fpClass f v = .normal :=
  h.resolve_left fun hzero => hne (fpReal_zero hzero)

theorem fpReal_neg_iff (h : fpClass f v = .normal) : fpReal f v < 0 ↔ fpSign f v = true := by
  have hsig := fpValue_sig_pos h
  rw [fpReal_eq (.inr h), signedBy_neg_iff _ (by positivity)]

end

/-! ### The fields as digits -/

section
variable (f : Fmt) (v : Word)

theorem fpFrac_eq : fpFrac f v = v.toNat % 2 ^ (f.precision - 1) := by
  cases f <;> exact BitVec.extractLsb'_toNat ..

theorem fpExp_eq : fpExp f v = v.toNat / 2 ^ (f.precision - 1) % 2 ^ f.expBits := by
  rw [← Nat.shiftRight_eq_div_pow]
  cases f <;> exact BitVec.extractLsb'_toNat ..

theorem fpSign_eq : fpSign f v = decide (v.toNat / 2 ^ (f.precision - 1) / 2 ^ f.expBits % 2 = 1) := by
  rw [Nat.div_div_eq_div_mul, ← Nat.pow_add, ← Nat.testBit_eq_decide_div_mod_eq]
  cases f <;> rfl

end

/-! ### Patterns from their fields -/

section
variable {f : Fmt} {neg : Bool} {e frac : Nat} (he : e ≤ f.expOnes) (hfrac : frac < 2 ^ (f.precision - 1))
include he hfrac

theorem toNat_fpPack : (fpPack f neg e frac).toNat =
    2 ^ (f.precision - 1) * (2 ^ f.expBits * neg.toNat + e) + frac := by
  have hsum : (if neg then 2 ^ (f.precision - 1 + f.expBits) else 0) + e * 2 ^ (f.precision - 1) + frac =
      2 ^ (f.precision - 1) * (2 ^ f.expBits * neg.toNat + e) + frac := by
    cases neg
    · simp [Nat.mul_comm]
    · simp only [if_true, Bool.toNat_true]
      ring
  rw [fpPack, BitVec.toNat_ofNat, hsum]
  apply Nat.mod_eq_of_lt
  have hneg := neg.toNat_le
  cases f <;> simp only [Fmt.precision, Fmt.expBits, Fmt.expOnes] at he hfrac ⊢ <;> omega

theorem fpFrac_fpPack : fpFrac f (fpPack f neg e frac) = frac := by
  rw [fpFrac_eq, toNat_fpPack he hfrac, Nat.mul_add_mod, Nat.mod_eq_of_lt hfrac]

omit hfrac in
theorem exponent_lt : e < 2 ^ f.expBits := by
  cases f <;> exact Nat.lt_succ_of_le he

theorem fpExp_fpPack : fpExp f (fpPack f neg e frac) = e := by
  rw [fpExp_eq, toNat_fpPack he hfrac, Nat.mul_add_div (by positivity), Nat.div_eq_of_lt hfrac, Nat.add_zero,
    Nat.mul_add_mod, Nat.mod_eq_of_lt (exponent_lt he)]

theorem fpSign_fpPack : fpSign f (fpPack f neg e frac) = neg := by
  rw [fpSign_eq, toNat_fpPack he hfrac, Nat.mul_add_div (by positivity), Nat.div_eq_of_lt hfrac, Nat.add_zero,
    Nat.mul_add_div (by positivity), Nat.div_eq_of_lt (exponent_lt he), Nat.add_zero]
  cases neg <;> rfl

/-- The sign of a pattern; a single stands in the low word. -/
structure SignedPattern (f : Fmt) (neg : Bool) (v : Word) : Prop where
  sign : fpSign f v = neg
  low : f = .single → v.toNat < 2 ^ 32

theorem signedPattern_fpPack : SignedPattern f neg (fpPack f neg e frac) where
  sign := fpSign_fpPack he hfrac
  low h := by
    rw [toNat_fpPack he hfrac]
    subst h
    have hneg := neg.toNat_le
    simp only [Fmt.precision, Fmt.expBits, Fmt.expOnes] at he hfrac ⊢
    omega

/-- The value of a normal pattern. -/
theorem fpReal_fpPack (hnormal : fpClass f (fpPack f neg e frac) = .normal) : fpReal f (fpPack f neg e frac) =
    signedBy neg (((2 ^ (f.precision - 1) + frac : Nat) : ℚ) * 2 ^ ((e : Int) - f.emax - (f.precision - 1 : Nat))) := by
  have hexp := (fpClass_normal_iff.mp hnormal).1
  rw [fpExp_fpPack he hfrac] at hexp
  rw [fpReal_eq (.inr hnormal), fpSign_fpPack he hfrac]
  simp only [fpValue, if_neg hexp, fpFrac_fpPack he hfrac, fpExp_fpPack he hfrac]

end

theorem fpClass_fpPack_normal {f : Fmt} {neg : Bool} {e frac : Nat} (h0 : 0 < e) (he : e < f.expOnes)
    (hfrac : frac < 2 ^ (f.precision - 1)) : fpClass f (fpPack f neg e frac) = .normal := by
  rw [fpClass_normal_iff, fpExp_fpPack he.le hfrac]
  exact ⟨h0.ne', he.ne⟩

section
variable (f : Fmt) (neg : Bool)

theorem fpZero_spec : fpClass f (fpZero f neg) = .zero ∧ SignedPattern f neg (fpZero f neg) := by
  have h0 : 0 < 2 ^ (f.precision - 1) := by positivity
  exact ⟨fpClass_zero_iff.mpr ⟨fpExp_fpPack (Nat.zero_le _) h0, fpFrac_fpPack (Nat.zero_le _) h0⟩,
    signedPattern_fpPack (Nat.zero_le _) h0⟩

theorem fpInfinity_spec : fpClass f (fpInfinity f neg) = .infinity ∧ SignedPattern f neg (fpInfinity f neg) := by
  have h0 : 0 < 2 ^ (f.precision - 1) := by positivity
  exact ⟨fpClass_infinity_iff.mpr ⟨fpExp_fpPack le_rfl h0, fpFrac_fpPack le_rfl h0⟩, signedPattern_fpPack le_rfl h0⟩

end

/-! ### The sign bit inverted and cleared -/

/-- w differs from v in the sign bit alone. -/
structure SameButSign (f : Fmt) (v w : Word) : Prop where
  exp : fpExp f w = fpExp f v
  frac : fpFrac f w = fpFrac f v

theorem fpNegate_sameButSign (f : Fmt) (v : Word) : SameButSign f v (fpNegate f v) := by
  cases f <;> constructor <;> simp only [fpExp, fpFrac, fpNegate, BitVec.extractLsb'_xor] <;>
    exact congrArg BitVec.toNat (BitVec.xor_zero ..)

theorem fpClearSign_sameButSign (f : Fmt) (v : Word) : SameButSign f v (fpClearSign f v) := by
  cases f <;> constructor <;> simp only [fpExp, fpFrac, fpClearSign, BitVec.extractLsb'_and] <;>
    exact congrArg BitVec.toNat (BitVec.and_allOnes ..)

theorem fpSign_fpNegate (f : Fmt) (v : Word) : fpSign f (fpNegate f v) = !fpSign f v := by
  cases f <;> simp [fpSign, fpNegate]

theorem fpSign_fpClearSign (f : Fmt) (v : Word) : fpSign f (fpClearSign f v) = false := by
  cases f <;> simp [fpSign, fpClearSign]

theorem SameButSign.fpClass {f : Fmt} {v w : Word} (h : SameButSign f v w) : fpClass f w = fpClass f v := by
  simp only [Sys2Proof.Machine.fpClass, h.exp, h.frac]

theorem fpReal_fpNegate (f : Fmt) (v : Word) : fpReal f (fpNegate f v) = -fpReal f v := by
  have hsame := fpNegate_sameButSign f v
  simp only [fpReal, hsame.exp, hsame.frac, fpSign_fpNegate]
  cases fpSign f v <;> simp

/-! ### Conversions to fixed point -/

/-- A significand shifted right, with δ more below it: the part kept and the fraction cut off. -/
theorem shift_parts {K : Type} [Field K] [LinearOrder K] [IsStrictOrderedRing K] {cut : Nat} (hcut : 0 < cut)
    (sig : Nat) {sticky : Bool} {δ : K} (h0 : 0 ≤ δ) (h1 : δ < 1) (hsticky : sticky = true ↔ δ ≠ 0) :
    ∃ t : K, CutOff t (sig % 2 ^ cut) (2 ^ (cut - 1)) sticky ∧ (sig + δ) / 2 ^ cut = (sig >>> cut : Nat) + t := by
  have hhalf : 2 ^ cut = 2 * 2 ^ (cut - 1) := (mul_pow_sub_one hcut.ne' 2).symm
  have hcast : (2 : K) ^ cut = 2 * ((2 ^ (cut - 1) : Nat) : K) := mod_cast hhalf
  have hlt : sig % 2 ^ cut < 2 * 2 ^ (cut - 1) := hhalf ▸ Nat.mod_lt _ (by positivity)
  refine ⟨_, cutOff_bits hlt h0 h1 hsticky, ?_⟩
  have hsig : (sig : K) = 2 ^ cut * (sig >>> cut : Nat) + (sig % 2 ^ cut : Nat) := by
    rw [Nat.shiftRight_eq_div_pow]
    exact_mod_cast (Nat.div_add_mod sig (2 ^ cut)).symm
  rw [← hcast, hsig]
  field_simp
  ring

/-- The integer part and the fraction of an exact magnitude, and how the model rounds them. -/
theorem roundToInt_parts (x : FpExactValue) : ∃ (k rem half : Nat) (t : ℚ), CutOff t rem half false ∧
    (x.sig : ℚ) * 2 ^ x.exp = k + t ∧ ∀ mode, roundToInt mode x =
      (if roundsAway mode x.neg (k % 2 == 1) rem half false then k + 1 else k, decide (rem ≠ 0)) := by
  by_cases hexp : 0 ≤ x.exp
  · obtain ⟨n, hn⟩ := Int.eq_ofNat_of_zero_le hexp
    refine ⟨x.sig <<< n, 0, 1, 0, cutOff_nothing, ?_, fun mode => ?_⟩
    · rw [hn, Nat.shiftLeft_eq]
      push_cast
      rw [zpow_natCast, add_zero]
    · have haway : roundsAway mode x.neg (x.sig <<< n % 2 == 1) 0 1 false = false := by
        simp [roundsAway]
      rw [roundToInt, if_pos hexp, haway, hn]
      rfl
  · obtain ⟨n, hn⟩ := Int.eq_ofNat_of_zero_le (neg_nonneg.mpr (le_of_not_ge hexp))
    have hpos : 0 < n := by omega
    obtain ⟨t, hcut, hsum⟩ := shift_parts hpos x.sig (le_refl (0 : ℚ)) one_pos (sticky := false) (by simp)
    refine ⟨x.sig >>> n, _, _, t, hcut, ?_, fun mode => ?_⟩
    · rw [← hsum, add_zero, show x.exp = -(n : Int) by omega, zpow_neg, zpow_natCast]
      rfl
    · rw [roundToInt, if_neg hexp, hn]
      rfl

section
variable {f : Fmt} {a : Word}

/-- A conversion to fixed point rounds the exact value, and tells whether that changed it
(spec/47_fpu_arith.md R423). -/
theorem roundToInt_spec (h : IsFinite f a) (mode : BitVec 2) :
    signedInt (fpSign f a) (roundToInt mode (fpValue f a)).1 = roundedTo mode (fpReal f a) ∧
      ((roundToInt mode (fpValue f a)).2 = true ↔ ((roundedTo mode (fpReal f a) : Int) : ℚ) ≠ fpReal f a) := by
  obtain ⟨k, rem, half, t, hcut, hsum, hround⟩ := roundToInt_parts (fpValue f a)
  have hrounded := roundedTo_signedBy hcut mode (fpSign f a) k
  rw [hround, fpReal_eq h, hsum]
  refine ⟨hrounded.symm, ?_⟩
  have hinexact := hcut.inexact_iff
  rw [Bool.or_false] at hinexact
  exact hinexact.trans (not_congr (roundedTo_exact_iff hcut mode (fpSign f a) k)).symm

theorem le_truncated_iff (h : IsFinite f a) (n : Nat) :
    n ≤ (roundToInt 1 (fpValue f a)).1 ↔ (n : ℚ) ≤ |fpReal f a| := by
  obtain ⟨k, rem, half, t, hcut, hsum, hround⟩ := roundToInt_parts (fpValue f a)
  have h0 := hcut.nonneg
  have hfloor := floor_add_fraction h0 hcut.lt_one k
  rw [hround, roundsAway_zero, fpReal_eq h, hsum, abs_signedBy _ (by positivity), ← Int.cast_natCast (R := ℚ) n,
    ← Int.le_floor, hfloor]
  exact Int.ofNat_le.symm

theorem fixedPointSource_iff : fixedPointSource f a = true ↔ IsFinite f a := by
  rw [fixedPointSource, Bool.or_eq_true, beq_iff_eq, beq_iff_eq, IsFinite]

/-- Inexact, when the integer is not the value (spec/47_fpu_arith.md R423). -/
def inexactCause (mode : BitVec 2) (x : ℚ) : BitVec 6 := if (roundedTo mode x : ℚ) = x then 0 else 0b000001

theorem cause_roundToInt (h : IsFinite f a) (mode : BitVec 2) :
    (if (roundToInt mode (fpValue f a)).2 then causeI else 0) = inexactCause mode (fpReal f a) := by
  rw [inexactCause, if_congr (roundToInt_spec h mode).2 rfl rfl, ite_not]
  rfl

theorem fpToW_not_finite (h : ¬ IsFinite f a) (mode : BitVec 2) : fpToW f mode a = fpUnimplementedResult := by
  rw [← fixedPointSource_iff, Bool.not_eq_true] at h
  rw [fpToW, h]
  rfl

theorem fpToL_not_finite (h : ¬ IsFinite f a) (mode : BitVec 2) : fpToL f mode a = fpUnimplementedResult := by
  rw [← fixedPointSource_iff, Bool.not_eq_true] at h
  rw [fpToL, h]
  rfl

theorem fpToW_finite (h : IsFinite f a) (mode : BitVec 2) :
    (FitsWord (roundedTo mode (fpReal f a)) → fpToW f mode a =
      { value := (BitVec.ofInt 32 (roundedTo mode (fpReal f a))).setWidth 64
        cause := inexactCause mode (fpReal f a) }) ∧
    (¬ FitsWord (roundedTo mode (fpReal f a)) → fpToW f mode a = fpUnimplementedResult) := by
  simp only [fpToW, fixedPointSource_iff.mpr h, (roundToInt_spec h mode).1, cause_roundToInt h, FitsWord]
  grind

theorem fpToL_finite (h : IsFinite f a) (mode : BitVec 2) :
    (|fpReal f a| < 2 ^ 53 → fpToL f mode a =
      { value := BitVec.ofInt 64 (roundedTo mode (fpReal f a)), cause := inexactCause mode (fpReal f a) }) ∧
    (2 ^ 53 ≤ |fpReal f a| → fpToL f mode a = fpUnimplementedResult) := by
  have hrange := le_truncated_iff h (2 ^ 53)
  push_cast at hrange
  simp only [fpToL, fixedPointSource_iff.mpr h, (roundToInt_spec h mode).1, cause_roundToInt h, ← not_le]
  grind

end

end Sys2Proof.Machine
end

section
/-! Proofs of the family 46_fpu: RoundPack is one rounding of the real number that an exact value stands for
(spec/47_fpu_arith.md R396). -/

namespace Sys2Proof.Machine

/-! ### The values of overflows and of tiny results -/

section
variable (f : Fmt) (mode : BitVec 2) (neg : Bool)

theorem overflowValue_eq : overflowValue f mode neg =
    if overflowsToInfinity mode neg then fpInfinity f neg else fpLargest f neg := by
  rcases rounding_modes mode with rfl | rfl | rfl | rfl <;> cases neg <;> rfl

theorem tinyValue_eq : tinyValue f mode neg =
    if tinyToSmallest mode neg then fpSmallestNormal f neg else fpZero f neg := by
  rcases rounding_modes mode with rfl | rfl | rfl | rfl <;> cases neg <;> rfl

/-- v is a normal number of a sign and a magnitude. -/
structure NormalValue (f : Fmt) (neg : Bool) (m : ℝ) (v : Word) : Prop extends SignedPattern f neg v where
  normal : fpClass f v = .normal
  real : ((fpReal f v : ℚ) : ℝ) = signedBy neg m

theorem NormalValue.abs_real {f : Fmt} {neg : Bool} {m : ℝ} {v : Word} (h : NormalValue f neg m v) (hm : 0 ≤ m) :
    |((fpReal f v : ℚ) : ℝ)| = m := by
  rw [h.real, abs_signedBy neg hm]

theorem cast_signedBy (neg : Bool) (q : ℚ) : ((signedBy neg q : ℚ) : ℝ) = signedBy neg (q : ℝ) := by
  cases neg <;> simp

theorem normalValue_fpPack {f : Fmt} {e frac : Nat} (neg : Bool) (h0 : 0 < e) (he : e < f.expOnes)
    (hfrac : frac < 2 ^ (f.precision - 1)) :
    NormalValue f neg (((2 ^ (f.precision - 1) + frac : Nat) : ℝ) * 2 ^ ((e : Int) - f.emax - (f.precision - 1 : Nat)))
      (fpPack f neg e frac) where
  toSignedPattern := signedPattern_fpPack he.le hfrac
  normal := fpClass_fpPack_normal h0 he hfrac
  real := by
    rw [fpReal_fpPack he.le hfrac (fpClass_fpPack_normal h0 he hfrac), cast_signedBy]
    push_cast
    rfl

theorem normalValue_fpLargest :
    NormalValue f neg ((2 - 2 ^ (1 - (f.precision : Int))) * 2 ^ f.emax) (fpLargest f neg) := by
  have h := normalValue_fpPack (f := f) (e := f.expOnes - 1) (frac := 2 ^ (f.precision - 1) - 1) neg
    (by cases f <;> decide) (by cases f <;> decide) (by cases f <;> decide)
  have hm : ((2 ^ (f.precision - 1) + (2 ^ (f.precision - 1) - 1) : Nat) : ℝ) *
      2 ^ (((f.expOnes - 1 : Nat) : Int) - f.emax - (f.precision - 1 : Nat)) =
      (2 - 2 ^ (1 - (f.precision : Int))) * 2 ^ f.emax := by
    have hexp : ((f.expOnes - 1 : Nat) : Int) - f.emax - (f.precision - 1 : Nat) =
        f.emax - (f.precision - 1 : Nat) := by cases f <;> rfl
    have hp : 1 - (f.precision : Int) = -(f.precision - 1 : Nat) := by cases f <;> rfl
    rw [hexp, hp, zpow_sub₀ two_ne_zero, zpow_neg, zpow_natCast, Nat.cast_add,
      Nat.cast_sub (Nat.one_le_two_pow)]
    push_cast
    field_simp
    ring
  rw [hm] at h
  exact h

theorem normalValue_fpSmallestNormal : NormalValue f neg (2 ^ f.emin) (fpSmallestNormal f neg) := by
  have h := normalValue_fpPack (f := f) (e := 1) (frac := 0) neg
    (by decide) (by cases f <;> decide) (by positivity)
  have hm : ((2 ^ (f.precision - 1) + 0 : Nat) : ℝ) * 2 ^ (((1 : Nat) : Int) - f.emax - (f.precision - 1 : Nat)) =
      2 ^ f.emin := by
    rw [add_zero, Nat.cast_pow, Nat.cast_two, ← zpow_natCast, ← zpow_add₀ two_ne_zero]
    cases f <;> rfl
  rw [hm] at h
  exact h

theorem overflowValue_spec : SignedPattern f neg (overflowValue f mode neg) ∧
    if overflowsToInfinity mode neg then fpClass f (overflowValue f mode neg) = .infinity
    else fpClass f (overflowValue f mode neg) = .normal ∧
      |((fpReal f (overflowValue f mode neg) : ℚ) : ℝ)| = (2 - 2 ^ (1 - (f.precision : Int))) * 2 ^ f.emax := by
  rw [overflowValue_eq]
  split
  · exact ⟨(fpInfinity_spec f neg).2, (fpInfinity_spec f neg).1⟩
  · have hlargest := normalValue_fpLargest f neg
    have hulp : (2 : ℝ) ^ (1 - (f.precision : Int)) ≤ 2 ^ (0 : Int) :=
      zpow_le_zpow_right₀ one_le_two (by cases f <;> decide)
    rw [zpow_zero] at hulp
    exact ⟨hlargest.toSignedPattern, hlargest.normal, hlargest.abs_real (mul_nonneg (by linarith) (by positivity))⟩

theorem tinyValue_spec : SignedPattern f neg (tinyValue f mode neg) ∧
    if tinyToSmallest mode neg then fpClass f (tinyValue f mode neg) = .normal ∧
      |((fpReal f (tinyValue f mode neg) : ℚ) : ℝ)| = 2 ^ f.emin
    else fpClass f (tinyValue f mode neg) = .zero := by
  rw [tinyValue_eq]
  split
  · have hsmallest := normalValue_fpSmallestNormal f neg
    exact ⟨hsmallest.toSignedPattern, hsmallest.normal, hsmallest.abs_real (by positivity)⟩
  · exact ⟨(fpZero_spec f neg).2, (fpZero_spec f neg).1⟩

end

/-! ### The exponent of a value -/

/-- The exponent of the leading bit of an exact value. -/
def leadingExp (x : FpExactValue) : Int := x.exp + (Nat.log2 x.sig + 1 : Nat) - 1

/-- The real number v is what x stands for: δ lies below its last bit, and then it has more bits than the format. -/
structure StandsFor (f : Fmt) (x : FpExactValue) (v : ℝ) : Prop where
  pos : 0 < x.sig
  long : x.sticky = true → 2 ^ f.precision ≤ x.sig
  value : ∃ δ : ℝ, 0 ≤ δ ∧ δ < 1 ∧ (x.sticky = true ↔ δ ≠ 0) ∧ v = signedBy x.neg ((x.sig + δ) * 2 ^ x.exp)

section
variable {f : Fmt} {x : FpExactValue} {v : ℝ} (h : StandsFor f x v)
include h

theorem StandsFor.neg_iff : v < 0 ↔ x.neg = true := by
  obtain ⟨δ, h0, -, -, rfl⟩ := h.value
  have hsig : (0 : ℝ) < x.sig := Nat.cast_pos.mpr h.pos
  exact signedBy_neg_iff _ (by positivity)

theorem StandsFor.log_abs : Int.log 2 |v| = leadingExp x := by
  obtain ⟨δ, h0, h1, -, rfl⟩ := h.value
  have hsig : (0 : ℝ) < x.sig := Nat.cast_pos.mpr h.pos
  have hlow : (2 : ℝ) ^ Nat.log2 x.sig ≤ x.sig := mod_cast Nat.log2_self_le h.pos.ne'
  have hhigh : (x.sig : ℝ) + 1 ≤ 2 ^ (Nat.log2 x.sig + 1) := mod_cast Nat.lt_log2_self
  have hm : (0 : ℝ) < (x.sig + δ) * 2 ^ x.exp := by positivity
  have hexp : leadingExp x = (Nat.log2 x.sig : Int) + x.exp := by rw [leadingExp]; push_cast; ring
  rw [abs_signedBy _ hm.le, hexp]
  apply le_antisymm
  · rw [← Int.lt_add_one_iff, ← Int.lt_zpow_iff_log_lt one_lt_two hm, Nat.cast_two, add_right_comm,
      zpow_add₀ two_ne_zero]
    gcongr
    exact (by linarith : (x.sig : ℝ) + δ < x.sig + 1).trans_le (mod_cast hhigh)
  · rw [← Int.zpow_le_iff_le_log one_lt_two hm, Nat.cast_two, zpow_add₀ two_ne_zero, zpow_natCast]
    gcongr
    linarith

end

/-! ### RoundPack in two steps -/

/-- The last step of RoundPack: a rounded significand of the exponent e of its leading bit, which may have carried. -/
def packRounded (f : Fmt) (env : FpEnv) (neg : Bool) (e : Int) (rounded : Nat) (inexact : Bool) : FpResult :=
  let p := f.precision
  let carry := rounded == 2 ^ p
  let e' : Int := if carry then e + 1 else e
  let sig := if carry then 2 ^ (p - 1) else rounded
  if f.emax < e' then { value := overflowValue f env.rm neg, cause := causeO ||| causeI }
  else { value := fpPack f neg (e' + f.emax).toNat (sig - 2 ^ (p - 1)), cause := if inexact then causeI else 0 }

/-- A tiny result, trapped or flushed. -/
def packTiny (f : Fmt) (env : FpEnv) (neg : Bool) : FpResult :=
  if !env.fs || env.enable.getLsbD 1 || env.enable.getLsbD 0 then fpUnimplementedResult
  else { value := tinyValue f env.rm neg, cause := causeU ||| causeI }

theorem roundPack_tiny {f : Fmt} {x : FpExactValue} (h : leadingExp x < f.emin) (env : FpEnv) :
    roundPack f env x = packTiny f env x.neg := if_pos h

section
variable {f : Fmt} {x : FpExactValue} (hmin : f.emin ≤ leadingExp x) (env : FpEnv)
include hmin

/-- A significand longer than the precision is cut. -/
theorem roundPack_cut (hlen : f.precision < Nat.log2 x.sig + 1) :
    let cut := Nat.log2 x.sig + 1 - f.precision
    roundPack f env x = packRounded f env x.neg (leadingExp x)
      (if roundsAway env.rm x.neg (x.sig >>> cut % 2 == 1) (x.sig % 2 ^ cut) (2 ^ (cut - 1)) x.sticky
        then x.sig >>> cut + 1 else x.sig >>> cut)
      (decide (x.sig % 2 ^ cut ≠ 0) || x.sticky) := by
  have htest : ¬ x.exp + (Nat.log2 x.sig + 1 : Nat) - 1 < f.emin := not_lt.mpr hmin
  simp only [roundPack, if_neg htest, if_pos hlen]
  rfl

/-- A significand that the format holds is filled up with zeros. -/
theorem roundPack_fill (hlen : ¬ f.precision < Nat.log2 x.sig + 1) :
    let kept := x.sig <<< (f.precision - (Nat.log2 x.sig + 1))
    roundPack f env x = packRounded f env x.neg (leadingExp x)
      (if roundsAway env.rm x.neg (kept % 2 == 1) 0 1 x.sticky then kept + 1 else kept)
      (decide (0 ≠ 0) || x.sticky) := by
  have htest : ¬ x.exp + (Nat.log2 x.sig + 1 : Nat) - 1 < f.emin := not_lt.mpr hmin
  simp only [roundPack, if_neg htest, if_neg hlen]
  rfl

end

theorem precision_pred (f : Fmt) : f.precision = f.precision - 1 + 1 := by cases f <;> rfl

/-- x is cut at the precision of the format into the bits k and the fraction t, which the model rounds by `rem`, `half`
and the sticky bit. -/
structure RoundedParts (f : Fmt) (x : FpExactValue) (v : ℝ) (k rem half : Nat) (t : ℝ) : Prop where
  cutOff : CutOff t rem half x.sticky
  low : 2 ^ (f.precision - 1) ≤ k
  high : k < 2 ^ f.precision
  value : v = signedBy x.neg (k + t) * 2 ^ (leadingExp x - (f.precision - 1 : Nat))
  packs : ∀ env, f.emin ≤ leadingExp x → roundPack f env x = packRounded f env x.neg (leadingExp x)
    (if roundsAway env.rm x.neg (k % 2 == 1) rem half x.sticky then k + 1 else k) (decide (rem ≠ 0) || x.sticky)

section
variable {f : Fmt} {x : FpExactValue} {v : ℝ} (h : StandsFor f x v)
include h

theorem StandsFor.parts_cut (hlen : f.precision < Nat.log2 x.sig + 1) :
    let cut := Nat.log2 x.sig + 1 - f.precision
    ∃ t, RoundedParts f x v (x.sig >>> cut) (x.sig % 2 ^ cut) (2 ^ (cut - 1)) t := by
  obtain ⟨δ, h0, h1, hsticky, rfl⟩ := h.value
  obtain ⟨t, hcutOff, hsum⟩ := shift_parts (Nat.sub_pos_of_lt hlen) x.sig h0 h1 hsticky
  have hp := precision_pred f
  refine ⟨t, hcutOff, ?low, ?high, ?value, fun env hmin => roundPack_cut hmin env hlen⟩
  case low =>
    rw [Nat.shiftRight_eq_div_pow, Nat.le_div_iff_mul_le (by positivity), ← Nat.pow_add,
      show f.precision - 1 + (Nat.log2 x.sig + 1 - f.precision) = Nat.log2 x.sig by omega]
    exact Nat.log2_self_le h.pos.ne'
  case high =>
    rw [Nat.shiftRight_eq_div_pow, Nat.div_lt_iff_lt_mul (by positivity), ← Nat.pow_add, Nat.add_sub_of_le hlen.le]
    exact Nat.lt_log2_self
  case value =>
    rw [signedBy_mul_right, ← hsum, div_mul_eq_mul_div, mul_div_assoc, ← zpow_natCast (2 : ℝ),
      ← zpow_sub₀ two_ne_zero, show leadingExp x - (f.precision - 1 : Nat) -
        (Nat.log2 x.sig + 1 - f.precision : Nat) = x.exp by rw [leadingExp]; omega]

/-- A significand with no more bits than the format has nothing left out below it. -/
theorem StandsFor.not_sticky (hlen : ¬ f.precision < Nat.log2 x.sig + 1) : x.sticky = false := by
  by_contra hsticky
  have hlong := h.long (Bool.of_not_eq_false hsticky)
  have hlt : x.sig < 2 ^ f.precision :=
    Nat.lt_log2_self.trans_le (Nat.pow_le_pow_right two_pos (not_lt.mp hlen))
  omega

theorem StandsFor.parts_fill (hlen : ¬ f.precision < Nat.log2 x.sig + 1) :
    RoundedParts f x v (x.sig <<< (f.precision - (Nat.log2 x.sig + 1))) 0 1 0 := by
  obtain ⟨δ, -, -, hsticky, rfl⟩ := h.value
  have hexact := h.not_sticky hlen
  have hδ : δ = 0 := by
    rw [hexact] at hsticky
    simpa using hsticky
  have hp := precision_pred f
  have hfill : 2 ^ (Nat.log2 x.sig + 1) * 2 ^ (f.precision - (Nat.log2 x.sig + 1)) = 2 ^ f.precision := by
    rw [← Nat.pow_add, Nat.add_sub_of_le (not_lt.mp hlen)]
  have hfill' : 2 ^ Nat.log2 x.sig * 2 ^ (f.precision - (Nat.log2 x.sig + 1)) = 2 ^ (f.precision - 1) := by
    rw [← Nat.pow_add, show Nat.log2 x.sig + (f.precision - (Nat.log2 x.sig + 1)) = f.precision - 1 by omega]
  refine ⟨hexact ▸ cutOff_nothing, ?low, ?high, ?value, fun env hmin => roundPack_fill hmin env hlen⟩
  case low =>
    rw [Nat.shiftLeft_eq, ← hfill']
    exact Nat.mul_le_mul_right _ (Nat.log2_self_le h.pos.ne')
  case high =>
    rw [Nat.shiftLeft_eq, ← hfill]
    exact Nat.mul_lt_mul_of_pos_right Nat.lt_log2_self (by positivity)
  case value =>
    rw [signedBy_mul_right, hδ, add_zero, add_zero, Nat.shiftLeft_eq, Nat.cast_mul, Nat.cast_pow, Nat.cast_two,
      mul_assoc, ← zpow_natCast (2 : ℝ), ← zpow_add₀ two_ne_zero]
    congr 3
    rw [leadingExp]
    omega

theorem StandsFor.parts : ∃ (k rem half : Nat) (t : ℝ), RoundedParts f x v k rem half t := by
  by_cases hlen : f.precision < Nat.log2 x.sig + 1
  · exact ⟨_, _, _, h.parts_cut hlen⟩
  · exact ⟨_, _, _, _, h.parts_fill hlen⟩

end

/-! ### What the last step packs -/

section
variable {f : Fmt} {e : Int} {rounded : Nat} (hlow : 2 ^ (f.precision - 1) ≤ rounded)
  (hhigh : rounded ≤ 2 ^ f.precision) (env : FpEnv) (neg inexact : Bool)
include hlow hhigh

/-- A carry moves the leading bit; after it the significand has the precision again. -/
theorem packRounded_parts : ∃ (e' : Int) (sig : Nat), e ≤ e' ∧ 2 ^ (f.precision - 1) ≤ sig ∧ sig < 2 ^ f.precision ∧
    (rounded : ℝ) * 2 ^ (e - (f.precision - 1 : Nat)) = sig * 2 ^ (e' - (f.precision - 1 : Nat)) ∧
    packRounded f env neg e rounded inexact =
      if f.emax < e' then { value := overflowValue f env.rm neg, cause := causeO ||| causeI }
      else { value := fpPack f neg (e' + f.emax).toNat (sig - 2 ^ (f.precision - 1))
             cause := if inexact then causeI else 0 } := by
  have hp := precision_pred f
  rcases hhigh.lt_or_eq with hlt | rfl
  · have hcarry : (rounded == 2 ^ f.precision) = false := beq_eq_false_iff_ne.mpr hlt.ne
    refine ⟨e, rounded, le_rfl, hlow, hlt, rfl, ?_⟩
    simp only [packRounded, hcarry]
    rfl
  · refine ⟨e + 1, 2 ^ (f.precision - 1), by omega, le_rfl, Nat.pow_lt_pow_right one_lt_two (by omega), ?_, ?_⟩
    · push_cast
      rw [← zpow_natCast, ← zpow_natCast, ← zpow_add₀ two_ne_zero, ← zpow_add₀ two_ne_zero]
      congr 1
      omega
    · simp only [packRounded, beq_self_eq_true]
      rfl

omit hlow hhigh in
theorem overflow_threshold {sig : Nat} (hsig : 2 ^ (f.precision - 1) ≤ sig) (hsig' : sig < 2 ^ f.precision) :
    2 ^ (f.emax + 1) ≤ (sig : ℝ) * 2 ^ (e - (f.precision - 1 : Nat)) ↔ f.emax < e := by
  have hp := precision_pred f
  have hlow : (2 : ℝ) ^ e ≤ sig * 2 ^ (e - (f.precision - 1 : Nat)) := by
    calc (2 : ℝ) ^ e = 2 ^ (f.precision - 1) * 2 ^ (e - (f.precision - 1 : Nat)) := by
          rw [← zpow_natCast, ← zpow_add₀ two_ne_zero, add_sub_cancel]
      _ ≤ _ := by
          gcongr
          exact_mod_cast hsig
  have hhigh : (sig : ℝ) * 2 ^ (e - (f.precision - 1 : Nat)) < 2 ^ (e + 1) := by
    calc (sig : ℝ) * 2 ^ (e - (f.precision - 1 : Nat)) < 2 ^ f.precision * 2 ^ (e - (f.precision - 1 : Nat)) := by
          gcongr
          exact_mod_cast hsig'
      _ = 2 ^ (e + 1) := by
          rw [← zpow_natCast, ← zpow_add₀ two_ne_zero]
          congr 1
          omega
  constructor
  · intro h
    have hlt := (zpow_lt_zpow_iff_right₀ (one_lt_two (α := ℝ))).mp (h.trans_lt hhigh)
    omega
  · intro h
    exact (zpow_le_zpow_right₀ one_le_two h).trans hlow

/-- The magnitude that a rounded significand stands for reaches the overflow threshold, or is packed as it is. -/
theorem packRounded_spec (hmin : f.emin ≤ e) :
    let m : ℝ := rounded * 2 ^ (e - (f.precision - 1 : Nat))
    let r := packRounded f env neg e rounded inexact
    (2 ^ (f.emax + 1) ≤ m → r = { value := overflowValue f env.rm neg, cause := causeO ||| causeI }) ∧
      (m < 2 ^ (f.emax + 1) → NormalValue f neg m r.value ∧ r.cause = if inexact then causeI else 0) := by
  obtain ⟨e', sig, he, hsig, hsig', hm, hr⟩ := packRounded_parts (e := e) hlow hhigh env neg inexact
  have hthreshold := overflow_threshold (e := e') hsig hsig'
  dsimp only
  rw [hm, hr]
  refine ⟨fun h => if_pos (hthreshold.mp h), fun h => ?_⟩
  have hmax : ¬ f.emax < e' := mt hthreshold.mpr (not_le.mpr h)
  rw [if_neg hmax]
  refine ⟨?_, rfl⟩
  have hp := precision_pred f
  have hrange : f.emin = 1 - f.emax ∧ (f.expOnes : Int) = 2 * f.emax + 1 := by cases f <;> exact ⟨rfl, rfl⟩
  obtain ⟨hemin, hones⟩ := hrange
  have hpow : 2 ^ f.precision = 2 * 2 ^ (f.precision - 1) := by rw [hp, Nat.pow_succ', Nat.add_sub_cancel]
  have hvalue := normalValue_fpPack (f := f) (e := (e' + f.emax).toNat) (frac := sig - 2 ^ (f.precision - 1)) neg
    (by omega) (by omega) (by omega)
  rwa [Nat.add_sub_of_le hsig, Int.toNat_of_nonneg (by omega), add_sub_cancel_right] at hvalue

end

/-! ### One rounding -/

section
variable {f : Fmt} {x : FpExactValue} {v : ℝ} (h : StandsFor f x v) (env : FpEnv)
include h

/-- The rounded significand, of the statements and of the model. -/
theorem StandsFor.rounded : ∃ (rounded : Nat) (inexact : Bool), 2 ^ (f.precision - 1) ≤ rounded ∧
    rounded ≤ 2 ^ f.precision ∧
    roundedSignificand f.precision env.rm v =
      signedBy x.neg ((rounded : ℝ) * 2 ^ (leadingExp x - (f.precision - 1 : Nat))) ∧
    (inexact = true ↔ roundedSignificand f.precision env.rm v ≠ v) ∧
    (f.emin ≤ leadingExp x → roundPack f env x = packRounded f env x.neg (leadingExp x) rounded inexact) := by
  obtain ⟨k, rem, half, t, hcut, hk, hk', hv, hround⟩ := h.parts
  have hunit : (2 : ℝ) ^ (leadingExp x - (f.precision - 1 : Nat)) ≠ 0 := by positivity
  have hquotient : v / 2 ^ (leadingExp x - (f.precision - 1 : Nat)) = signedBy x.neg (k + t) := by
    rw [hv, mul_div_cancel_right₀ _ hunit]
  have hy : roundedSignificand f.precision env.rm v = (roundedTo env.rm (signedBy x.neg (k + t)) : Int) *
      2 ^ (leadingExp x - (f.precision - 1 : Nat)) := by
    rw [roundedSignificand, h.log_abs, hquotient]
  refine ⟨_, _, ?_, ?_, ?_, ?_, hround env⟩
  · split <;> omega
  · split <;> omega
  · rw [hy, roundedTo_signedBy hcut, cast_signedInt, signedBy_mul_right]
  · rw [hcut.inexact_iff, hy, ne_eq, ne_eq, ← roundedTo_exact_iff hcut env.rm x.neg k]
    conv_rhs => rw [hv, mul_left_inj' hunit]

theorem StandsFor.tiny_iff : |v| < 2 ^ f.emin ↔ leadingExp x < f.emin := by
  have hne : v ≠ 0 := by
    obtain ⟨δ, h0, -, -, rfl⟩ := h.value
    have hsig : (0 : ℝ) < x.sig := Nat.cast_pos.mpr h.pos
    rw [← abs_ne_zero, abs_signedBy _ (by positivity)]
    positivity
  rw [← h.log_abs]
  exact Int.lt_zpow_iff_log_lt one_lt_two (abs_pos.mpr hne)

theorem StandsFor.signed {w : Word} (hw : SignedPattern f x.neg w) :
    (fpSign f w = true ↔ v < 0) ∧ (f = .single → w.toNat < 2 ^ 32) :=
  ⟨by rw [hw.sign, h.neg_iff], hw.low⟩

/-- A tiny result is trapped, or flushed to a value of its sign. -/
theorem packTiny_spec :
    let r := packTiny f env x.neg
    if env.fs = false ∨ env.enable.getLsbD 1 = true ∨ env.enable.getLsbD 0 = true then r.cause = 0b100000
    else r.cause = 0b000011 ∧ ((fpSign f r.value = true ↔ v < 0) ∧ (f = .single → r.value.toNat < 2 ^ 32)) ∧
      if tinyToSmallest env.rm (decide (fpSign f r.value = true)) then
        fpClass f r.value = .normal ∧ |((fpReal f r.value : ℚ) : ℝ)| = 2 ^ f.emin
      else fpClass f r.value = .zero := by
  have htrapped : (!env.fs || env.enable.getLsbD 1 || env.enable.getLsbD 0) = true ↔
      env.fs = false ∨ env.enable.getLsbD 1 = true ∨ env.enable.getLsbD 0 = true := by
    simp [or_assoc]
  obtain ⟨hsigned, hvalue⟩ := tinyValue_spec f env.rm x.neg
  simp only [packTiny, htrapped]
  split
  · rfl
  · refine ⟨rfl, h.signed hsigned, ?_⟩
    rwa [hsigned.sign, Bool.decide_eq_true]

end

/-- A tiny value stays below the overflow threshold when its significand is rounded. -/
theorem tiny_lt_threshold {f : Fmt} {e : Int} {rounded : Nat} (hhigh : rounded ≤ 2 ^ f.precision) (h : e < f.emin) :
    (rounded : ℝ) * 2 ^ (e - (f.precision - 1 : Nat)) < 2 ^ (f.emax + 1) := by
  have hp := precision_pred f
  have hmax : f.emin < f.emax + 1 := by cases f <;> decide
  calc (rounded : ℝ) * 2 ^ (e - (f.precision - 1 : Nat)) ≤ 2 ^ f.precision * 2 ^ (e - (f.precision - 1 : Nat)) := by
        gcongr
        exact_mod_cast hhigh
    _ = 2 ^ (e + 1) := by
        rw [← zpow_natCast, ← zpow_add₀ two_ne_zero]
        congr 1
        omega
    _ < 2 ^ (f.emax + 1) := zpow_lt_zpow_right₀ one_lt_two (by omega)

/-- RoundPack rounds the real number once (spec/47_fpu_arith.md R396). -/
theorem StandsFor.roundsTo {f : Fmt} {x : FpExactValue} {v : ℝ} (h : StandsFor f x v) (env : FpEnv) :
    RoundsTo f env v (roundPack f env x) := by
  obtain ⟨rounded, inexact, hlow, hhigh, hy, hinexact, hround⟩ := h.rounded env
  have hm : (0 : ℝ) ≤ rounded * 2 ^ (leadingExp x - (f.precision - 1 : Nat)) := by positivity
  have habs : |roundedSignificand f.precision env.rm v| = rounded * 2 ^ (leadingExp x - (f.precision - 1 : Nat)) := by
    rw [hy, abs_signedBy _ hm]
  by_cases htiny : leadingExp x < f.emin
  case pos =>
    have hbelow := tiny_lt_threshold hhigh htiny
    rw [RoundsTo, habs, if_neg (not_le.mpr hbelow), if_pos (h.tiny_iff.mpr htiny), roundPack_tiny htiny]
    exact packTiny_spec h env
  case neg =>
    have hmin := not_lt.mp htiny
    obtain ⟨hover, hpacked⟩ := packRounded_spec hlow hhigh env x.neg inexact hmin
    rw [hround hmin]
    by_cases hthreshold : 2 ^ (f.emax + 1) ≤ (rounded : ℝ) * 2 ^ (leadingExp x - (f.precision - 1 : Nat))
    case pos =>
      obtain ⟨hsigned, hvalue⟩ := overflowValue_spec f env.rm x.neg
      rw [RoundsTo, habs, if_pos hthreshold, hover hthreshold]
      refine ⟨rfl, h.signed hsigned, ?_⟩
      rwa [hsigned.sign, Bool.decide_eq_true]
    case neg =>
      obtain ⟨hvalue, hcause⟩ := hpacked (not_le.mp hthreshold)
      rw [RoundsTo, habs, if_neg hthreshold, if_neg (mt h.tiny_iff.mp htiny)]
      refine ⟨?_, h.signed hvalue.toSignedPattern, hvalue.normal, hvalue.real.trans hy.symm⟩
      rw [hcause, if_congr hinexact rfl rfl, ite_not]
      rfl

end Sys2Proof.Machine
end

section
/-! Proofs of the family 46_fpu: the exact value that each operation on finite operands hands to RoundPack
(spec/47_fpu_arith.md R415 to R419, R432, R433). -/

namespace Sys2Proof.Machine

/-! ### Exact values -/

theorem standsFor_exact (f : Fmt) (neg : Bool) {sig : Nat} (exp : Int) (h : 0 < sig) :
    StandsFor f { neg := neg, sig := sig, exp := exp, sticky := false }
      ((signedBy neg ((sig : ℚ) * 2 ^ exp) : ℚ) : ℝ) where
  pos := h
  long hsticky := absurd hsticky Bool.false_ne_true
  value := by
    refine ⟨0, le_rfl, one_pos, by simp, ?_⟩
    rw [cast_signedBy, add_zero]
    push_cast
    rfl

theorem signedBy_natAbs (n : Int) : signedBy (decide (n < 0)) ((n.natAbs : Nat) : ℚ) = n := by
  by_cases h : n < 0
  · rw [decide_eq_true h, signedBy_true, Nat.cast_natAbs, abs_of_neg h]
    simp
  · rw [decide_eq_false h, signedBy_false, Nat.cast_natAbs, abs_of_nonneg (not_lt.mp h)]

theorem standsFor_int (f : Fmt) {n : Int} (exp : Int) (h : n ≠ 0) :
    StandsFor f { neg := decide (n < 0), sig := n.natAbs, exp := exp, sticky := false }
      (((n : ℚ) * 2 ^ exp : ℚ) : ℝ) := by
  have hstands := standsFor_exact f (decide (n < 0)) exp (Int.natAbs_pos.mpr h)
  rwa [← signedBy_mul_right, signedBy_natAbs] at hstands

/-! ### Sums -/

theorem scaledTo_mul (x : FpExactValue) {e : Int} (h : e ≤ x.exp) :
    (scaledTo e x : ℚ) * 2 ^ e = signedBy x.neg ((x.sig : ℚ) * 2 ^ x.exp) := by
  obtain ⟨n, hn⟩ := Int.eq_ofNat_of_zero_le (sub_nonneg.mpr h)
  have hsigned : scaledTo e x = signedInt x.neg (x.sig <<< n) := by
    rw [scaledTo, hn]
    rfl
  rw [hsigned, cast_signedInt, signedBy_mul_right, Nat.shiftLeft_eq, Nat.cast_mul, Nat.cast_pow, Nat.cast_two,
    mul_assoc, ← zpow_natCast (2 : ℚ), ← zpow_add₀ two_ne_zero]
  congr 3
  omega

/-! ### Quotients -/

theorem signedBy_mul (p q : Bool) (m n : ℚ) : signedBy p m * signedBy q n = signedBy (p != q) (m * n) := by
  cases p <;> cases q <;> simp

theorem signedBy_div (p q : Bool) (m n : ℚ) : signedBy p m / signedBy q n = signedBy (p != q) (m / n) := by
  cases p <;> cases q <;> simp [neg_div, div_neg]

/-- The quotient of two significands of the format, with enough bits before the first that is left out. -/
theorem standsFor_quotient {f : Fmt} (neg : Bool) {s t : Nat} (a b : Int) (hs : 2 ^ (f.precision - 1) ≤ s) (ht0 : 0 < t)
    (ht : t < 2 ^ f.precision) :
    let n := s <<< (f.precision + 3)
    StandsFor f { neg := neg, sig := n / t, exp := a - b - (f.precision + 3 : Nat), sticky := decide (n % t ≠ 0) }
      ((signedBy neg ((s : ℚ) * 2 ^ a / (t * 2 ^ b)) : ℚ) : ℝ) := by
  intro n
  have hn : n = s * 2 ^ (f.precision + 3) := Nat.shiftLeft_eq ..
  have hlong : 2 ^ f.precision ≤ n / t := by
    rw [Nat.le_div_iff_mul_le ht0]
    calc 2 ^ f.precision * t ≤ 2 ^ f.precision * 2 ^ f.precision := Nat.mul_le_mul_left _ ht.le
      _ ≤ 2 ^ (f.precision - 1) * 2 ^ (f.precision + 3) := by
          rw [← Nat.pow_add, ← Nat.pow_add]
          exact Nat.pow_le_pow_right two_pos (by omega)
      _ ≤ n := hn ▸ Nat.mul_le_mul_right _ hs
  have ht' : (0 : ℝ) < t := Nat.cast_pos.mpr ht0
  have hcast : (n : ℝ) = s * 2 ^ (f.precision + 3) := mod_cast hn
  have hdivision : (n : ℝ) = t * (n / t : Nat) + (n % t : Nat) := mod_cast (Nat.div_add_mod n t).symm
  refine ⟨(Nat.two_pow_pos _).trans_le hlong, fun _ => hlong, (n % t : Nat) / t, by positivity, ?_, ?_, ?_⟩
  · rw [div_lt_one ht']
    exact_mod_cast Nat.mod_lt n ht0
  · rw [decide_eq_true_iff, ne_eq, ne_eq, div_eq_zero_iff, or_iff_left ht'.ne', Nat.cast_eq_zero]
  · rw [cast_signedBy]
    have hsum : ((n / t : Nat) : ℝ) + (n % t : Nat) / t = n / t := by
      rw [hdivision]
      field_simp
    rw [hsum, hcast, zpow_sub₀ two_ne_zero, zpow_sub₀ two_ne_zero, zpow_natCast, Rat.cast_div, Rat.cast_mul,
      Rat.cast_mul, Rat.cast_zpow, Rat.cast_zpow, Rat.cast_natCast, Rat.cast_natCast, Rat.cast_ofNat]
    congr 1
    field_simp

/-! ### Square roots -/

/-- The search bit by bit finds the integer square root. -/
theorem isqrt_eq_sqrt {n bits r : Nat} (hlow : r ≤ Nat.sqrt n) (hhigh : Nat.sqrt n < r + 2 ^ bits) :
    isqrt n bits r = Nat.sqrt n := by
  induction bits generalizing r with
  | zero =>
    rw [isqrt]
    omega
  | succ bits ih =>
    rw [isqrt]
    rw [Nat.pow_succ] at hhigh
    simp only [← Nat.le_sqrt]
    split
    · exact ih ‹_› (by omega)
    · exact ih hlow (by omega)

/-- The square root of an integer and an even power of two, with enough bits before the first that is left out. -/
theorem standsFor_sqrt {f : Fmt} {s : Nat} (e : Int) (hs0 : 0 < s) (hs : s < 2 ^ (2 * f.precision)) :
    let n := s <<< (2 * f.precision)
    let r := isqrt n (2 * f.precision) 0
    StandsFor f { neg := false, sig := r, exp := e - f.precision, sticky := decide (r * r ≠ n) }
      (Real.sqrt ((s : ℝ) * 2 ^ (2 * e))) := by
  intro n r
  have hn : n = s * 2 ^ (2 * f.precision) := Nat.shiftLeft_eq ..
  have hr : r = Nat.sqrt n := by
    refine isqrt_eq_sqrt (Nat.zero_le _) ?_
    rw [Nat.zero_add, Nat.sqrt_lt', ← Nat.pow_mul, hn, Nat.mul_two, Nat.pow_add]
    exact Nat.mul_lt_mul_of_pos_right hs (by positivity)
  have hlong : 2 ^ f.precision ≤ r := by
    rw [hr, Nat.le_sqrt', ← Nat.pow_mul, hn, Nat.mul_comm f.precision]
    exact Nat.le_mul_of_pos_left _ hs0
  have hlow : (r : ℝ) ≤ Real.sqrt n := hr ▸ Real.nat_sqrt_le_real_sqrt
  have hhigh : Real.sqrt n < r + 1 := hr ▸ Real.real_sqrt_lt_nat_sqrt_succ
  refine ⟨(Nat.two_pow_pos _).trans_le hlong, fun _ => hlong, Real.sqrt n - r, by linarith, by linarith, ?_, ?_⟩
  · rw [decide_eq_true_iff, not_iff_not, sub_eq_zero, Real.sqrt_eq_iff_mul_self_eq n.cast_nonneg r.cast_nonneg]
    norm_cast
    exact eq_comm
  · rw [signedBy_false, add_sub_cancel, hn, Nat.cast_mul, Nat.cast_pow, Nat.cast_two, Real.sqrt_mul s.cast_nonneg,
      Real.sqrt_mul s.cast_nonneg, two_mul e, zpow_add₀ two_ne_zero, Nat.two_mul, pow_add,
      Real.sqrt_mul_self (by positivity), Real.sqrt_mul_self (by positivity), zpow_sub₀ two_ne_zero, zpow_natCast]
    field_simp

end Sys2Proof.Machine
end

section
/-! Proofs of the family 46_fpu: what the operations make of operands of each class (spec/46_fpu.md R393;
spec/47_fpu_arith.md R414 to R420, R422, R432, R433). -/

namespace Sys2Proof.Machine

/-! ### The check of the operands (spec/47_fpu_arith.md R414) -/

/-- A pattern the check of operands lets pass. -/
def IsNumber (f : Fmt) (v : Word) : Prop := fpClass f v = .zero ∨ fpClass f v = .normal ∨ fpClass f v = .infinity

/-- Invalid with the default quiet NaN. -/
def IsInvalidResult (f : Fmt) (r : FpResult) : Prop := r = { value := quietNan f, cause := 0b010000 }

theorem isInvalidResult_fpInvalid (f : Fmt) : IsInvalidResult f (fpInvalid f) := by cases f <;> rfl

/-- What the check says of an operand: Unimplemented Operation for a denormal and a quiet NaN, Invalid for a signalling
NaN. -/
def Checked (f : Fmt) (v : Word) (g : Fmt) (r : FpResult) : Prop :=
  (fpClass f v = .denormal ∨ fpClass f v = .qnan → r.cause = 0b100000) ∧
    (fpClass f v = .snan → IsInvalidResult g r)

section
variable {f dst : Fmt} {a b v : Word}

theorem IsFinite.isNumber (h : IsFinite f v) : IsNumber f v := h.elim .inl fun h => .inr (.inl h)

theorem isNumber_of_infinity (h : fpClass f v = .infinity) : IsNumber f v := .inr (.inr h)

theorem checkOperand_number (h : IsNumber f v) : checkOperand f dst v = none := by
  rcases h with h | h | h <;> simp only [checkOperand, h]

/-- An operand that does not pass decides the result. -/
theorem checked_of_checkOperand {r : FpResult} (h : ∀ e, checkOperand f dst v = some e → r = e) :
    Checked f v dst r := by
  refine ⟨?_, fun hclass => ?_⟩
  · rintro (hclass | hclass) <;> rw [h fpUnimplementedResult (by simp only [checkOperand, hclass])] <;> rfl
  · rw [h (fpInvalid dst) (by simp only [checkOperand, hclass])]
    exact isInvalidResult_fpInvalid dst

theorem checkOperands_number (ha : IsNumber f a) (hb : IsNumber f b) : checkOperands f a b = none := by
  rw [checkOperands, checkOperand_number ha]
  exact checkOperand_number hb

/-- The first operand is checked first. -/
theorem checked_of_checkOperands {r : FpResult} (h : ∀ e, checkOperands f a b = some e → r = e) :
    Checked f a f r ∧ (IsNumber f a → Checked f b f r) := by
  refine ⟨checked_of_checkOperand fun e he => h e ?_, fun ha => checked_of_checkOperand fun e he => h e ?_⟩
  · rw [checkOperands, he]
  · rw [checkOperands, checkOperand_number ha, he]

theorem checked_binary (f : Fmt) (env : FpEnv) (a b : Word) :
    ∀ r ∈ [fpAdd f env a b, fpSub f env a b, fpMul f env a b, fpDiv f env a b],
      Checked f a f r ∧ (IsNumber f a → Checked f b f r) := by
  simp only [List.forall_mem_cons, List.not_mem_nil, false_implies, implies_true, and_true]
  refine ⟨?add, ?sub, ?mul, ?div⟩
  case add => exact checked_of_checkOperands fun e he => by rw [fpAdd, he]
  case sub => exact checked_of_checkOperands fun e he => by rw [fpSub, he]
  case mul => exact checked_of_checkOperands fun e he => by rw [fpMul, he]
  case div => exact checked_of_checkOperands fun e he => by rw [fpDiv, he]

theorem checked_unary (f : Fmt) (env : FpEnv) (a : Word) :
    ∀ r ∈ [fpSqrt f env a, fpAbs f env a, fpNeg f env a], Checked f a f r := by
  simp only [List.forall_mem_cons, List.not_mem_nil, false_implies, implies_true, and_true]
  refine ⟨?sqrt, ?abs, ?neg⟩
  case sqrt => exact checked_of_checkOperand fun e he => by rw [fpSqrt, he]
  case abs => exact checked_of_checkOperand fun e he => by rw [fpAbs, he]
  case neg => exact checked_of_checkOperand fun e he => by rw [fpNeg, he]

theorem checked_fpToFmt (f dst : Fmt) (env : FpEnv) (a : Word) : Checked f a dst (fpToFmt f dst env a) :=
  checked_of_checkOperand fun e he => by rw [fpToFmt, he]

/-! ### ABS and NEG (spec/47_fpu_arith.md R420, R422) -/

/-- The result differs from the operand in the sign bit alone. -/
def SignSet (f : Fmt) (a : Word) (p : FpResult × Bool) : Prop :=
  p.1.cause = 0 ∧ fpSign f p.1.value = p.2 ∧ fpExp f p.1.value = fpExp f a ∧ fpFrac f p.1.value = fpFrac f a

theorem signSet_unary (ha : IsNumber f a) (env : FpEnv) :
    ∀ p ∈ [(fpAbs f env a, false), (fpNeg f env a, !fpSign f a)], SignSet f a p := by
  have habs : fpAbs f env a = fpExact (fpClearSign f a) := by rw [fpAbs, checkOperand_number ha]
  have hneg : fpNeg f env a = fpExact (fpNegate f a) := by rw [fpNeg, checkOperand_number ha]
  have hclear := fpClearSign_sameButSign f a
  have hnegate := fpNegate_sameButSign f a
  simp only [List.forall_mem_cons, List.not_mem_nil, false_implies, implies_true, and_true, habs, hneg]
  exact ⟨⟨rfl, fpSign_fpClearSign f a, hclear.exp, hclear.frac⟩, ⟨rfl, fpSign_fpNegate f a, hnegate.exp, hnegate.frac⟩⟩

/-! ### Zeros and infinities as results -/

/-- An exact zero of a sign. -/
def IsZeroResult (f : Fmt) (neg : Bool) (r : FpResult) : Prop :=
  r.cause = 0 ∧ fpClass f r.value = .zero ∧ fpSign f r.value = neg

/-- An exact infinity of a sign. -/
def IsInfinityResult (f : Fmt) (neg : Bool) (r : FpResult) : Prop :=
  r.cause = 0 ∧ fpClass f r.value = .infinity ∧ fpSign f r.value = neg

theorem isZeroResult_fpZero (f : Fmt) (neg : Bool) : IsZeroResult f neg (fpExact (fpZero f neg)) :=
  ⟨rfl, (fpZero_spec f neg).1, (fpZero_spec f neg).2.sign⟩

theorem isInfinityResult_fpInfinity (f : Fmt) (neg : Bool) : IsInfinityResult f neg (fpExact (fpInfinity f neg)) :=
  ⟨rfl, (fpInfinity_spec f neg).1, (fpInfinity_spec f neg).2.sign⟩

theorem isInf_of {c : FpClass} (h : fpClass f v = c) : isInf f v = (c == .infinity) := by rw [isInf, h]

theorem isZero_of {c : FpClass} (h : fpClass f v = c) : isZero f v = (c == .zero) := by rw [isZero, h]

theorem IsFinite.isInf (h : IsFinite f v) : isInf f v = false := by
  rcases h with h | h <;> rw [isInf_of h] <;> rfl

theorem IsFinite.isZero_iff (h : IsFinite f v) : isZero f v = true ↔ fpReal f v = 0 := by
  rw [h.fpReal_eq_zero_iff, isZero, beq_iff_eq]

end

/-! ### Sums (spec/47_fpu_arith.md R415, R416) -/

section
variable {f : Fmt} {a b : Word} (env : FpEnv)

theorem fpAdd_number (ha : IsNumber f a) (hb : IsNumber f b) : fpAdd f env a b = fpSum f env a b := by
  rw [fpAdd, checkOperands_number ha hb]

theorem fpSub_number (ha : IsNumber f a) (hb : IsNumber f b) : fpSub f env a b = fpSum f env a (fpNegate f b) := by
  rw [fpSub, checkOperands_number ha hb]

/-- The exponent to which a sum is scaled. -/
def commonExp (f : Fmt) (a b : Word) : Int := min (fpValue f a).exp (fpValue f b).exp

/-- The exact sum of two finite operands, as an integer scaled to that exponent. -/
def scaledSum (f : Fmt) (a b : Word) : Int :=
  scaledTo (commonExp f a b) (fpValue f a) + scaledTo (commonExp f a b) (fpValue f b)

theorem fpReal_add (ha : IsFinite f a) (hb : IsFinite f b) :
    fpReal f a + fpReal f b = (scaledSum f a b : ℚ) * 2 ^ commonExp f a b := by
  have hx := scaledTo_mul (e := commonExp f a b) (fpValue f a) (min_le_left _ _)
  have hy := scaledTo_mul (e := commonExp f a b) (fpValue f b) (min_le_right _ _)
  rw [fpReal_eq ha, fpReal_eq hb, scaledSum, Int.cast_add, add_mul, hx, hy]
  rfl

theorem scaledSum_eq_zero_iff (ha : IsFinite f a) (hb : IsFinite f b) :
    scaledSum f a b = 0 ↔ fpReal f a + fpReal f b = 0 := by
  rw [fpReal_add ha hb, mul_eq_zero, or_iff_left (by positivity), Int.cast_eq_zero]

/-- Two zeros of one sign, as the model asks for them. -/
theorem likeZeros_iff (ha : IsFinite f a) (hb : IsFinite f b) :
    (isZero f a && isZero f b && fpSign f a == fpSign f b) = true ↔
      fpReal f a = 0 ∧ fpReal f b = 0 ∧ fpSign f a = fpSign f b := by
  simp only [Bool.and_eq_true, ha.isZero_iff, hb.isZero_iff, beq_iff_eq, and_assoc]

theorem fpSum_finite (ha : IsFinite f a) (hb : IsFinite f b) : fpSum f env a b =
    if fpReal f a = 0 ∧ fpReal f b = 0 ∧ fpSign f a = fpSign f b then fpExact a
    else if scaledSum f a b = 0 then fpExact (fpZero f (env.rm == 3))
    else roundPack f env { neg := decide (scaledSum f a b < 0), sig := (scaledSum f a b).natAbs
                           exp := commonExp f a b, sticky := false } := by
  simp only [fpSum, ha.isInf, hb.isInf, Bool.false_and, if_congr (likeZeros_iff ha hb) rfl rfl]
  rfl

theorem fpSum_rounds (ha : IsFinite f a) (hb : IsFinite f b) (h : fpReal f a + fpReal f b ≠ 0) :
    RoundsTo f env ((fpReal f a + fpReal f b : ℚ) : ℝ) (fpSum f env a b) := by
  have hne : scaledSum f a b ≠ 0 := mt (scaledSum_eq_zero_iff ha hb).mp h
  have hnot : ¬ (fpReal f a = 0 ∧ fpReal f b = 0 ∧ fpSign f a = fpSign f b) := by
    rintro ⟨hx, hy, -⟩
    rw [hx, hy, add_zero] at h
    exact h rfl
  rw [fpSum_finite env ha hb, if_neg hnot, if_neg hne, fpReal_add ha hb]
  exact (standsFor_int f _ hne).roundsTo env

/-- An exact zero sum: the common sign of two zeros, or the sign the direction gives. -/
theorem fpSum_zero (ha : IsFinite f a) (hb : IsFinite f b) (h : fpReal f a + fpReal f b = 0) :
    IsZeroResult f (if fpReal f a = 0 ∧ fpSign f a = fpSign f b then fpSign f a else env.rm == 3)
      (fpSum f env a b) := by
  have hzeros : fpReal f a = 0 ∧ fpReal f b = 0 ∧ fpSign f a = fpSign f b ↔
      fpReal f a = 0 ∧ fpSign f a = fpSign f b := by grind
  rw [fpSum_finite env ha hb, if_pos ((scaledSum_eq_zero_iff ha hb).mpr h), if_congr hzeros rfl rfl]
  split
  · next hboth => exact ⟨rfl, ha.fpReal_eq_zero_iff.mp hboth.1, rfl⟩
  · exact isZeroResult_fpZero f _

theorem IsFinite.fpNegate (h : IsFinite f b) : IsFinite f (fpNegate f b) := by
  rwa [IsFinite, (fpNegate_sameButSign f b).fpClass]

theorem fpAdd_rounds (ha : IsFinite f a) (hb : IsFinite f b) (h : fpReal f a + fpReal f b ≠ 0) :
    RoundsTo f env ((fpReal f a + fpReal f b : ℚ) : ℝ) (fpAdd f env a b) := by
  rw [fpAdd_number env ha.isNumber hb.isNumber]
  exact fpSum_rounds env ha hb h

theorem fpSub_rounds (ha : IsFinite f a) (hb : IsFinite f b) (h : fpReal f a - fpReal f b ≠ 0) :
    RoundsTo f env ((fpReal f a - fpReal f b : ℚ) : ℝ) (fpSub f env a b) := by
  rw [sub_eq_add_neg, ← fpReal_fpNegate] at h ⊢
  rw [fpSub_number env ha.isNumber hb.isNumber]
  exact fpSum_rounds env ha hb.fpNegate h

theorem fpAdd_zero (ha : IsFinite f a) (hb : IsFinite f b) (h : fpReal f a + fpReal f b = 0) :
    IsZeroResult f (if fpReal f a = 0 ∧ xor (fpSign f a) (fpSign f b) = false then fpSign f a else env.rm == 3)
      (fpAdd f env a b) := by
  have hlike : xor (fpSign f a) (fpSign f b) = false ↔ fpSign f a = fpSign f b := by
    rw [← Bool.not_eq_true, Bool.xor_iff_ne, not_not]
  rw [fpAdd_number env ha.isNumber hb.isNumber, if_congr (and_congr_right' hlike) rfl rfl]
  exact fpSum_zero env ha hb h

theorem fpSub_zero (ha : IsFinite f a) (hb : IsFinite f b) (h : fpReal f a - fpReal f b = 0) :
    IsZeroResult f (if fpReal f a = 0 ∧ xor (fpSign f a) (fpSign f b) = true then fpSign f a else env.rm == 3)
      (fpSub f env a b) := by
  rw [sub_eq_add_neg, ← fpReal_fpNegate] at h
  have hlike : xor (fpSign f a) (fpSign f b) = true ↔ fpSign f a = fpSign f (fpNegate f b) := by
    rw [Bool.xor_iff_ne, ← Bool.eq_not, fpSign_fpNegate]
  rw [fpSub_number env ha.isNumber hb.isNumber, if_congr (and_congr_right' hlike) rfl rfl]
  exact fpSum_zero env ha hb.fpNegate h

theorem fpSum_infinities (ha : fpClass f a = .infinity) (hb : fpClass f b = .infinity) :
    (fpSign f a = fpSign f b → IsInfinityResult f (fpSign f a) (fpSum f env a b)) ∧
      (fpSign f a ≠ fpSign f b → IsInvalidResult f (fpSum f env a b)) := by
  simp only [fpSum, isInf_of ha, isInf_of hb, beq_self_eq_true, Bool.and_self, if_true, beq_iff_eq]
  refine ⟨fun h => ?_, fun h => ?_⟩
  · rw [if_pos h]
    exact ⟨rfl, ha, rfl⟩
  · rw [if_neg h]
    exact isInvalidResult_fpInvalid f

theorem fpAdd_infinities (ha : fpClass f a = .infinity) (hb : fpClass f b = .infinity) :
    if fpSign f a = fpSign f b then IsInfinityResult f (fpSign f a) (fpAdd f env a b)
    else IsInvalidResult f (fpAdd f env a b) := by
  obtain ⟨hlike, hunlike⟩ := fpSum_infinities env ha hb
  rw [fpAdd_number env (isNumber_of_infinity ha) (isNumber_of_infinity hb)]
  split
  · exact hlike ‹_›
  · exact hunlike ‹_›

theorem fpSub_infinities (ha : fpClass f a = .infinity) (hb : fpClass f b = .infinity) :
    if fpSign f a = fpSign f b then IsInvalidResult f (fpSub f env a b)
    else IsInfinityResult f (fpSign f a) (fpSub f env a b) := by
  have hb' : fpClass f (fpNegate f b) = .infinity := (fpNegate_sameButSign f b).fpClass.trans hb
  obtain ⟨hlike, hunlike⟩ := fpSum_infinities env ha hb'
  rw [fpSign_fpNegate, Bool.eq_not] at hlike
  rw [fpSign_fpNegate, Bool.ne_not] at hunlike
  rw [fpSub_number env (isNumber_of_infinity ha) (isNumber_of_infinity hb)]
  split
  · exact hunlike ‹_›
  · exact hlike ‹_›

theorem fpSum_infinity_left (ha : fpClass f a = .infinity) (hb : IsFinite f b) :
    IsInfinityResult f (fpSign f a) (fpSum f env a b) := by
  have hresult : fpSum f env a b = fpExact a := by
    simp only [fpSum, isInf_of ha, hb.isInf]
    rfl
  rw [hresult]
  exact ⟨rfl, ha, rfl⟩

theorem fpSum_infinity_right (ha : IsFinite f a) (hb : fpClass f b = .infinity) :
    IsInfinityResult f (fpSign f b) (fpSum f env a b) := by
  have hresult : fpSum f env a b = fpExact b := by
    simp only [fpSum, ha.isInf, isInf_of hb]
    rfl
  rw [hresult]
  exact ⟨rfl, hb, rfl⟩

theorem fpAdd_infinity_left (ha : fpClass f a = .infinity) (hb : IsFinite f b) :
    IsInfinityResult f (fpSign f a) (fpAdd f env a b) := by
  rw [fpAdd_number env (isNumber_of_infinity ha) hb.isNumber]
  exact fpSum_infinity_left env ha hb

theorem fpSub_infinity_left (ha : fpClass f a = .infinity) (hb : IsFinite f b) :
    IsInfinityResult f (fpSign f a) (fpSub f env a b) := by
  rw [fpSub_number env (isNumber_of_infinity ha) hb.isNumber]
  exact fpSum_infinity_left env ha hb.fpNegate

theorem fpAdd_infinity_right (ha : IsFinite f a) (hb : fpClass f b = .infinity) :
    IsInfinityResult f (fpSign f b) (fpAdd f env a b) := by
  rw [fpAdd_number env ha.isNumber (isNumber_of_infinity hb)]
  exact fpSum_infinity_right env ha hb

theorem fpSub_infinity_right (ha : IsFinite f a) (hb : fpClass f b = .infinity) :
    IsInfinityResult f (!fpSign f b) (fpSub f env a b) := by
  rw [fpSub_number env ha.isNumber (isNumber_of_infinity hb), ← fpSign_fpNegate]
  exact fpSum_infinity_right env ha ((fpNegate_sameButSign f b).fpClass.trans hb)

/-! ### Products and quotients (spec/47_fpu_arith.md R417, R418) -/

theorem fpMul_rounds (ha : IsFinite f a) (hb : IsFinite f b) (h : fpReal f a * fpReal f b ≠ 0) :
    RoundsTo f env ((fpReal f a * fpReal f b : ℚ) : ℝ) (fpMul f env a b) := by
  have ha' := ha.normal_of_ne (left_ne_zero_of_mul h)
  have hb' := hb.normal_of_ne (right_ne_zero_of_mul h)
  have hsig : 0 < (fpValue f a).sig * (fpValue f b).sig := Nat.mul_pos (fpValue_sig_pos ha') (fpValue_sig_pos hb')
  have hvalue : fpReal f a * fpReal f b = signedBy (fpSign f a != fpSign f b)
      ((((fpValue f a).sig * (fpValue f b).sig : Nat) : ℚ) * 2 ^ ((fpValue f a).exp + (fpValue f b).exp)) := by
    rw [fpReal_eq ha, fpReal_eq hb, signedBy_mul, zpow_add₀ two_ne_zero, Nat.cast_mul, mul_mul_mul_comm]
  have hresult : fpMul f env a b = roundPack f env
      { neg := fpSign f a != fpSign f b, sig := (fpValue f a).sig * (fpValue f b).sig
        exp := (fpValue f a).exp + (fpValue f b).exp, sticky := false } := by
    simp only [fpMul, checkOperands_number ha.isNumber hb.isNumber, ha.isInf, hb.isInf, isZero_of ha', isZero_of hb']
    rfl
  rw [hresult, hvalue]
  exact (standsFor_exact f _ _ hsig).roundsTo env

theorem fpMul_zero (ha : IsFinite f a) (hb : IsFinite f b) (h : fpReal f a * fpReal f b = 0) :
    IsZeroResult f (xor (fpSign f a) (fpSign f b)) (fpMul f env a b) := by
  have hzero : (isZero f a || isZero f b) = true := by
    rw [Bool.or_eq_true, ha.isZero_iff, hb.isZero_iff]
    exact mul_eq_zero.mp h
  have hresult : fpMul f env a b = fpExact (fpZero f (fpSign f a != fpSign f b)) := by
    simp only [fpMul, checkOperands_number ha.isNumber hb.isNumber, ha.isInf, hb.isInf, hzero, Bool.and_false,
      Bool.false_and]
    rfl
  rw [hresult]
  exact isZeroResult_fpZero f _

theorem fpMul_infinity (ha : IsNumber f a) (hb : IsNumber f b)
    (hinf : fpClass f a = .infinity ∨ fpClass f b = .infinity) :
    if fpClass f a = .zero ∨ fpClass f b = .zero then IsInvalidResult f (fpMul f env a b)
    else IsInfinityResult f (xor (fpSign f a) (fpSign f b)) (fpMul f env a b) := by
  have hzero : ((isInf f a && isZero f b) || (isZero f a && isInf f b)) = true ↔
      fpClass f a = .zero ∨ fpClass f b = .zero := by
    simp only [isInf, isZero, Bool.or_eq_true, Bool.and_eq_true, beq_iff_eq]
    grind
  have hinf' : (isInf f a || isInf f b) = true := by
    rwa [isInf, isInf, Bool.or_eq_true, beq_iff_eq, beq_iff_eq]
  simp only [fpMul, checkOperands_number ha hb, if_congr hzero rfl rfl, hinf', if_true]
  split
  · exact isInvalidResult_fpInvalid f
  · exact isInfinityResult_fpInfinity f _

theorem fpMul_infinity_left (ha : fpClass f a = .infinity) (hb : IsNumber f b) :
    if fpClass f b = .zero then IsInvalidResult f (fpMul f env a b)
    else IsInfinityResult f (xor (fpSign f a) (fpSign f b)) (fpMul f env a b) := by
  have hmul := fpMul_infinity env (isNumber_of_infinity ha) hb (.inl ha)
  rwa [if_congr (or_iff_right (by rw [ha]; decide)) rfl rfl] at hmul

theorem fpMul_infinity_right (ha : IsNumber f a) (hb : fpClass f b = .infinity) :
    if fpClass f a = .zero then IsInvalidResult f (fpMul f env a b)
    else IsInfinityResult f (xor (fpSign f a) (fpSign f b)) (fpMul f env a b) := by
  have hmul := fpMul_infinity env ha (isNumber_of_infinity hb) (.inr hb)
  rwa [if_congr (or_iff_left (by rw [hb]; decide)) rfl rfl] at hmul

theorem fpMul_infinities (ha : fpClass f a = .infinity) (hb : fpClass f b = .infinity) :
    IsInfinityResult f (xor (fpSign f a) (fpSign f b)) (fpMul f env a b) := by
  have hmul := fpMul_infinity_left env ha (isNumber_of_infinity hb)
  rwa [if_neg (by rw [hb]; decide)] at hmul

/-- The quotient of the significands and whether it is all of the quotient. -/
def exactQuotient (f : Fmt) (a b : Word) : FpExactValue :=
  let n := (fpValue f a).sig <<< (f.precision + 3)
  { neg := fpSign f a != fpSign f b, sig := n / (fpValue f b).sig
    exp := (fpValue f a).exp - (fpValue f b).exp - (f.precision + 3 : Nat)
    sticky := decide (n % (fpValue f b).sig ≠ 0) }

theorem fpDiv_rounds (ha : IsFinite f a) (hb : IsFinite f b) (hx : fpReal f a ≠ 0) (hy : fpReal f b ≠ 0) :
    RoundsTo f env ((fpReal f a / fpReal f b : ℚ) : ℝ) (fpDiv f env a b) := by
  have ha' := ha.normal_of_ne hx
  have hb' := hb.normal_of_ne hy
  have hvalue : fpReal f a / fpReal f b = signedBy (fpSign f a != fpSign f b)
      (((fpValue f a).sig : ℚ) * 2 ^ (fpValue f a).exp / ((fpValue f b).sig * 2 ^ (fpValue f b).exp)) := by
    rw [fpReal_eq ha, fpReal_eq hb, signedBy_div]
  have hstands := standsFor_quotient (f := f) (fpSign f a != fpSign f b) (fpValue f a).exp (fpValue f b).exp
    (fpValue_sig_normal ha').1 (fpValue_sig_pos hb') (fpValue_sig_normal hb').2
  have hresult : fpDiv f env a b = roundPack f env (exactQuotient f a b) := by
    simp only [fpDiv, checkOperands_number ha.isNumber hb.isNumber, ha.isInf, hb.isInf, isZero_of ha', isZero_of hb']
    rfl
  rw [hresult, hvalue]
  exact hstands.roundsTo env

theorem fpDiv_invalid (ha : IsNumber f a) (hb : IsNumber f b)
    (h : (isInf f a && isInf f b || isZero f a && isZero f b) = true) : IsInvalidResult f (fpDiv f env a b) := by
  simp only [fpDiv, checkOperands_number ha hb, h, if_true]
  exact isInvalidResult_fpInvalid f

theorem fpDiv_zeros (ha : IsFinite f a) (hb : IsFinite f b) (hx : fpReal f a = 0) (hy : fpReal f b = 0) :
    IsInvalidResult f (fpDiv f env a b) := by
  apply fpDiv_invalid env ha.isNumber hb.isNumber
  rw [ha.isZero_iff.mpr hx, hb.isZero_iff.mpr hy]
  exact Bool.or_true _

theorem fpDiv_infinities (ha : fpClass f a = .infinity) (hb : fpClass f b = .infinity) :
    IsInvalidResult f (fpDiv f env a b) := by
  apply fpDiv_invalid env (isNumber_of_infinity ha) (isNumber_of_infinity hb)
  rw [isInf_of ha, isInf_of hb]
  exact Bool.true_or _

theorem fpDiv_infinity_left (ha : fpClass f a = .infinity) (hb : IsFinite f b) :
    IsInfinityResult f (xor (fpSign f a) (fpSign f b)) (fpDiv f env a b) := by
  have hresult : fpDiv f env a b = fpExact (fpInfinity f (fpSign f a != fpSign f b)) := by
    simp only [fpDiv, checkOperands_number (isNumber_of_infinity ha) hb.isNumber, isInf_of ha, hb.isInf, isZero_of ha]
    rfl
  rw [hresult]
  exact isInfinityResult_fpInfinity f _

theorem fpDiv_infinity_right (ha : IsFinite f a) (hb : fpClass f b = .infinity) :
    IsZeroResult f (xor (fpSign f a) (fpSign f b)) (fpDiv f env a b) := by
  have hresult : fpDiv f env a b = fpExact (fpZero f (fpSign f a != fpSign f b)) := by
    simp only [fpDiv, checkOperands_number ha.isNumber (isNumber_of_infinity hb), ha.isInf, isInf_of hb, isZero_of hb]
    cases isZero f a <;> rfl
  rw [hresult]
  exact isZeroResult_fpZero f _

theorem fpDiv_zero_left (ha : IsFinite f a) (hb : IsFinite f b) (hx : fpReal f a = 0) (hy : fpReal f b ≠ 0) :
    IsZeroResult f (xor (fpSign f a) (fpSign f b)) (fpDiv f env a b) := by
  have hresult : fpDiv f env a b = fpExact (fpZero f (fpSign f a != fpSign f b)) := by
    simp only [fpDiv, checkOperands_number ha.isNumber hb.isNumber, ha.isInf, hb.isInf, ha.isZero_iff.mpr hx,
      isZero_of (hb.normal_of_ne hy)]
    rfl
  rw [hresult]
  exact isZeroResult_fpZero f _

/-- Division by zero (spec/47_fpu_arith.md R418). -/
theorem fpDiv_zero_right (ha : IsFinite f a) (hb : IsFinite f b) (hx : fpReal f a ≠ 0) (hy : fpReal f b = 0) :
    (fpDiv f env a b).cause = 0b001000 ∧ fpClass f (fpDiv f env a b).value = .infinity ∧
      fpSign f (fpDiv f env a b).value = xor (fpSign f a) (fpSign f b) := by
  have hresult : fpDiv f env a b = { value := fpInfinity f (fpSign f a != fpSign f b), cause := causeZ } := by
    simp only [fpDiv, checkOperands_number ha.isNumber hb.isNumber, ha.isInf, hb.isInf, hb.isZero_iff.mpr hy,
      isZero_of (ha.normal_of_ne hx)]
    rfl
  rw [hresult]
  exact ⟨rfl, (isInfinityResult_fpInfinity f _).2⟩

/-! ### Square roots (spec/47_fpu_arith.md R419) -/

theorem fpSqrt_zero (ha : IsFinite f a) (h : fpReal f a = 0) : IsZeroResult f (fpSign f a) (fpSqrt f env a) := by
  have hresult : fpSqrt f env a = fpExact a := by
    simp only [fpSqrt, checkOperand_number ha.isNumber, ha.isZero_iff.mpr h]
    rfl
  rw [hresult]
  exact ⟨rfl, ha.fpReal_eq_zero_iff.mp h, rfl⟩

theorem fpSqrt_signed (ha : fpClass f a = .normal ∨ fpClass f a = .infinity) (h : fpSign f a = true) :
    IsInvalidResult f (fpSqrt f env a) := by
  have hnumber : IsNumber f a := .inr ha
  have hzero : isZero f a = false := by rcases ha with ha | ha <;> rw [isZero_of ha] <;> rfl
  simp only [fpSqrt, checkOperand_number hnumber, hzero, h]
  exact isInvalidResult_fpInvalid f

theorem fpSqrt_negative (ha : IsFinite f a) (h : fpReal f a < 0) : IsInvalidResult f (fpSqrt f env a) :=
  have hnormal := ha.normal_of_ne h.ne
  fpSqrt_signed env (.inl hnormal) ((fpReal_neg_iff hnormal).mp h)

theorem fpSqrt_infinity (ha : fpClass f a = .infinity) :
    if fpSign f a then IsInvalidResult f (fpSqrt f env a) else IsInfinityResult f false (fpSqrt f env a) := by
  split
  · exact fpSqrt_signed env (.inr ha) ‹_›
  · next hsign =>
    rw [Bool.not_eq_true] at hsign
    have hresult : fpSqrt f env a = fpExact a := by
      simp only [fpSqrt, checkOperand_number (isNumber_of_infinity ha), isZero_of ha, isInf_of ha, hsign]
      rfl
    rw [hresult]
    exact ⟨rfl, ha, hsign⟩

/-- The significand under the root, once its exponent is even. -/
def rootSig (x : FpExactValue) : Nat := if x.exp % 2 ≠ 0 then x.sig * 2 else x.sig

/-- Half of that exponent. -/
def rootExp (x : FpExactValue) : Int := (if x.exp % 2 ≠ 0 then x.exp - 1 else x.exp) / 2

theorem rootSig_mul (x : FpExactValue) : (rootSig x : ℝ) * 2 ^ (2 * rootExp x) = x.sig * 2 ^ x.exp := by
  by_cases hodd : x.exp % 2 ≠ 0
  · rw [rootSig, rootExp, if_pos hodd, if_pos hodd, Int.mul_ediv_cancel' (by omega), zpow_sub_one₀ two_ne_zero,
      Nat.cast_mul, Nat.cast_two]
    field_simp
  · rw [rootSig, rootExp, if_neg hodd, if_neg hodd, Int.mul_ediv_cancel' (by omega)]

/-- The square root of the significand and whether it is all of the root. -/
def exactRoot (f : Fmt) (a : Word) : FpExactValue :=
  let n := rootSig (fpValue f a) <<< (2 * f.precision)
  let r := isqrt n (2 * f.precision) 0
  { neg := false, sig := r, exp := rootExp (fpValue f a) - f.precision, sticky := decide (r * r ≠ n) }

theorem fpSqrt_rounds (ha : IsFinite f a) (h : 0 < fpReal f a) :
    RoundsTo f env (Real.sqrt ((fpReal f a : ℚ) : ℝ)) (fpSqrt f env a) := by
  have hnormal := ha.normal_of_ne h.ne'
  have hsign : fpSign f a = false :=
    Bool.eq_false_of_not_eq_true (mt (fpReal_neg_iff hnormal).mpr (not_lt.mpr h.le))
  have hhigh := (fpValue_sig_normal hnormal).2
  have hpos := fpValue_sig_pos hnormal
  have hsig : 0 < rootSig (fpValue f a) ∧ rootSig (fpValue f a) ≤ (fpValue f a).sig * 2 := by
    rw [rootSig]
    split <;> omega
  have hbound : rootSig (fpValue f a) < 2 ^ (2 * f.precision) := by
    calc rootSig (fpValue f a) ≤ (fpValue f a).sig * 2 := hsig.2
      _ < 2 ^ f.precision * 2 := Nat.mul_lt_mul_of_pos_right hhigh two_pos
      _ ≤ 2 ^ (2 * f.precision) := by
          rw [← Nat.pow_succ]
          exact Nat.pow_le_pow_right two_pos (by cases f <;> decide)
  have hvalue : ((fpReal f a : ℚ) : ℝ) = rootSig (fpValue f a) * 2 ^ (2 * rootExp (fpValue f a)) := by
    rw [fpReal_eq ha, hsign, signedBy_false, rootSig_mul]
    push_cast
    rfl
  have hresult : fpSqrt f env a = roundPack f env (exactRoot f a) := by
    simp only [fpSqrt, checkOperand_number ha.isNumber, isZero_of hnormal, ha.isInf, hsign]
    rfl
  rw [hresult, hvalue]
  exact (standsFor_sqrt (rootExp (fpValue f a)) hsig.1 hbound).roundsTo env

/-! ### Conversions (spec/47_fpu_arith.md R432, R433) -/

section
variable {dst : Fmt}

theorem fpToFmt_rounds (ha : IsFinite f a) (h : fpReal f a ≠ 0) :
    RoundsTo dst env ((fpReal f a : ℚ) : ℝ) (fpToFmt f dst env a) := by
  have hnormal := ha.normal_of_ne h
  have hresult : fpToFmt f dst env a = roundPack dst env (fpValue f a) := by
    simp only [fpToFmt, checkOperand_number ha.isNumber, ha.isInf, isZero_of hnormal]
    rfl
  rw [hresult, fpReal_eq ha]
  exact (standsFor_exact dst _ _ (fpValue_sig_pos hnormal)).roundsTo env

theorem fpToFmt_zero (ha : IsFinite f a) (h : fpReal f a = 0) :
    IsZeroResult dst (fpSign f a) (fpToFmt f dst env a) := by
  have hresult : fpToFmt f dst env a = fpExact (fpZero dst (fpSign f a)) := by
    simp only [fpToFmt, checkOperand_number ha.isNumber, ha.isInf, ha.isZero_iff.mpr h]
    rfl
  rw [hresult]
  exact isZeroResult_fpZero dst _

theorem fpToFmt_infinity (ha : fpClass f a = .infinity) :
    IsInfinityResult dst (fpSign f a) (fpToFmt f dst env a) := by
  have hresult : fpToFmt f dst env a = fpExact (fpInfinity dst (fpSign f a)) := by
    simp only [fpToFmt, checkOperand_number (isNumber_of_infinity ha), isInf_of ha]
    rfl
  rw [hresult]
  exact isInfinityResult_fpInfinity dst _

theorem fpOfInt_zero : fpOfInt dst env 0 = { value := 0, cause := 0 } := by
  cases dst <;> rfl

theorem fpOfInt_rounds {n : Int} (h : n ≠ 0) : RoundsTo dst env (n : ℝ) (fpOfInt dst env n) := by
  have hstands := standsFor_int dst 0 h
  rw [zpow_zero, mul_one, Rat.cast_intCast] at hstands
  rw [fpOfInt, if_neg h]
  exact hstands.roundsTo env

theorem fpOfL_inRange (hlow : -(2 ^ 55) ≤ a.toInt) (hhigh : a.toInt < 2 ^ 55) :
    fpOfL dst env a = fpOfInt dst env a.toInt := if_neg (not_or.mpr ⟨not_lt.mpr hlow, not_le.mpr hhigh⟩)

theorem fpOfL_outOfRange (h : a.toInt < -(2 ^ 55) ∨ 2 ^ 55 ≤ a.toInt) : fpOfL dst env a = fpUnimplementedResult :=
  if_pos h

end

end

end Sys2Proof.Machine
end

section
/-! Proofs of the family 46_fpu: the statement on what arithmetic and conversions compute. -/

namespace Sys2Proof.Machine

/-- Conversions to fixed point, of finite operands and of others. -/
theorem fixedPointResults (f : Fmt) (mode : BitVec 2) (a : Word) :
    let x := fpReal f a
    let n := roundedTo mode x
    (¬ IsFinite f a → (fpToW f mode a).cause = 0b100000 ∧ (fpToL f mode a).cause = 0b100000) ∧
    (IsFinite f a → ¬ FitsWord n → (fpToW f mode a).cause = 0b100000) ∧
    (IsFinite f a → FitsWord n →
      fpToW f mode a = { value := (BitVec.ofInt 32 n).setWidth 64, cause := inexactCause mode x }) ∧
    (IsFinite f a → 2 ^ 53 ≤ |x| → (fpToL f mode a).cause = 0b100000) ∧
    (IsFinite f a → |x| < 2 ^ 53 → fpToL f mode a = { value := BitVec.ofInt 64 n, cause := inexactCause mode x }) := by
  refine ⟨fun h => ⟨?_, ?_⟩, fun h hn => ?_, fun h => (fpToW_finite h mode).1, fun h hx => ?_,
    fun h => (fpToL_finite h mode).1⟩
  · rw [fpToW_not_finite h]
    rfl
  · rw [fpToL_not_finite h]
    rfl
  · rw [(fpToW_finite h mode).2 hn]
    rfl
  · rw [(fpToL_finite h mode).2 hx]
    rfl

/-- Settles O43: every operation on finite operands hands an exact value to RoundPack, which rounds it once; the other
operands decide the result by their class. -/
theorem floatResults : Obligations.FloatResults := by
  unfold Obligations.FloatResults
  refine ⟨fixedPointResults, fun f dst env a b => ?finite, fun f dst env a b => ?checked,
    fun f dst env a b => ?infinite, fun dst env a => ?integer⟩
  case finite =>
    intro finite x y rounds zero invalid apart (ha : IsFinite f a) (hb : IsFinite f b)
    exact ⟨fpAdd_rounds env ha hb, fpAdd_zero env ha hb, fpSub_rounds env ha hb, fpSub_zero env ha hb,
      fpMul_rounds env ha hb, fpMul_zero env ha hb, fpDiv_rounds env ha hb, fpDiv_zero_left env ha hb,
      fpDiv_zero_right env ha hb, fpDiv_zeros env ha hb, fpSqrt_rounds env ha, fpSqrt_zero env ha,
      fpSqrt_negative env ha, fpToFmt_rounds env ha, fpToFmt_zero env ha⟩
  case checked =>
    exact ⟨checked_binary f env a b, checked_unary f env a, checked_fpToFmt f dst env a,
      fun ha => signSet_unary ha env⟩
  case infinite =>
    exact ⟨
      fun ha hb => ⟨fpAdd_infinities env ha hb, fpSub_infinities env ha hb, fpMul_infinities env ha hb,
        fpDiv_infinities env ha hb⟩,
      fun ha hb => ⟨fpAdd_infinity_left env ha hb, fpSub_infinity_left env ha hb, fpDiv_infinity_left env ha hb,
        fpMul_infinity_left env ha (IsFinite.isNumber hb)⟩,
      fun ha hb => ⟨fpAdd_infinity_right env ha hb, fpSub_infinity_right env ha hb, fpDiv_infinity_right env ha hb,
        fpMul_infinity_right env (IsFinite.isNumber ha) hb⟩,
      fun ha => ⟨fpSqrt_infinity env ha, fpToFmt_infinity env ha⟩⟩
  case integer =>
    intro n m
    refine ⟨fpOfInt_rounds env, fun h => ?word, fun hm hlow hhigh => ?double, fun hm => ?doubleZero, fun hm => ?range⟩
    case word => exact (congrArg (fpOfInt dst env) h).trans (fpOfInt_zero env)
    case double =>
      rw [fpOfL_inRange env hlow hhigh]
      exact fpOfInt_rounds env hm
    case doubleZero =>
      rw [fpOfL_inRange env (by omega) (by omega)]
      exact (congrArg (fpOfInt dst env) hm).trans (fpOfInt_zero env)
    case range =>
      rw [fpOfL_outOfRange env hm]
      rfl

end Sys2Proof.Machine
end

section
/-! Proofs of the family 70_reset_and_hazards: no step changes a byte of the two images (spec/20_memory.md R152;
spec/70_reset_and_hazards.md R625). -/

namespace Sys2Proof.Machine

/-! ### Steps that keep the images -/

/-- From a canonical memory, t holds the images of s in a canonical memory (spec/20_memory.md R150). -/
def KeepsImages (s t : State) : Prop :=
  s.mem.wf = true → t.mem.wf = true ∧ ∀ a, isImage a = true → Memory.lookup a t.mem = Memory.lookup a s.mem

section
variable {s t u : State}

theorem KeepsImages.of_mem_eq (h : t.mem = s.mem) : KeepsImages s t := fun hwf => by
  rw [h]
  exact ⟨hwf, fun _ _ => rfl⟩

theorem KeepsImages.refl (s : State) : KeepsImages s s := .of_mem_eq rfl

theorem KeepsImages.trans (hst : KeepsImages s t) (htu : KeepsImages t u) : KeepsImages s u := fun hwf => by
  obtain ⟨hwt, hlt⟩ := hst hwf
  obtain ⟨hwu, hlu⟩ := htu hwt
  exact ⟨hwu, fun a ha => (hlu a ha).trans (hlt a ha)⟩

/-- A byte written outside the images. -/
theorem keepsImages_setMemByte {a : Nat} (ha : isImage a = false) (b : Byte) (s : State) :
    KeepsImages s (setMemByte a b s) := fun hwf => by
  refine ⟨wf_write a b s.mem hwf, fun c hc => lookup_write_other a c b s.mem ?_⟩
  rintro rfl
  exact absurd hc (ne_true_of_eq_false ha)

/-! ### Devices, instructions and exceptions -/

theorem DeviceWrite.keepsImages (h : DeviceWrite s t) : KeepsImages s t := by
  cases h with
  | byte a b s ha => exact keepsImages_setMemByte ha b s
  | slot blk k v s => exact .of_mem_eq (setWriteSide_mem blk k v s)
  | draws | semaphore | spStatus | latch => exact .of_mem_eq rfl

theorem DeviceWrites.keepsImages (h : DeviceWrites s t) : KeepsImages s t := by
  induction h with
  | refl => exact .refl s
  | tail _ hstep ih => exact ih.trans hstep.keepsImages

theorem InstrWrite.keepsImages {i : Instr} (h : InstrWrite i s t) : KeepsImages s t := by
  cases h with
  | device h => exact h.keepsImages
  | gpr r v => exact .of_mem_eq (writeGpr_mem s r v)
  | cop0 _ h => exact .of_mem_eq (congrArg State.mem (cop0Write_frame h) :)
  | eret => exact .of_mem_eq (congrArg State.mem (returnFromException_frame s).1 :)
  | control | hiLo | cells | fcr31 | linked | random | tlbRead | tlbEntry | index => exact .of_mem_eq rfl

theorem takeException_mem (e : Exc) (s : State) : (takeException e s).mem = s.mem :=
  (congrArg State.mem (enters_takeException e s).rest :)

theorem InstrEnds.keepsImages {i : Instr} (h : InstrEnds i s t) : KeepsImages s t := by
  cases h with
  | raises e f _ ht =>
    subst ht
    exact .of_mem_eq (takeException_mem e _)
  | completes h =>
    induction h with
    | refl => exact .refl s
    | tail _ hstep ih => exact ih.trans hstep.keepsImages

/-! ### The instruction step -/

/-- A decoded word that answers a next state is an instruction of the table, or has entered an exception before which
nothing but FCR31 changed. -/
theorem execDecoded_next {d : Decoded} (h : execDecoded d s = .next t) :
    (∃ i, InstrEnds i s t) ∨ ∃ e f, t = takeException e { s with fcr31 := f } := by
  have raised {r : Res State} (hr : Gives (fun u => ∃ e f, u = takeException e { s with fcr31 := f }) r)
      (hfinish : finish s r = .next t) : ∃ e f, t = takeException e { s with fcr31 := f } := by
    rcases (finish_next s t r).mp hfinish with hok | ⟨e, -, rfl⟩
    · exact hr t hok
    · exact ⟨e, s.fcr31, rfl⟩
  cases d with
  | instr i => exact .inl ⟨i, exec_ends i s t h⟩
  | shouldBeZero i =>
    refine .inr (raised (.after ?_) h)
    split
    · exact .after (.stop _)
    · exact .stop _
  | reserved => exact .inr (raised (r := raise _) (.stop _) h)
  | reservedCop unit => exact .inr (raised (.after (.stop _)) h)
  | cop2 => exact .inr (raised (.ite (.stop _) (.stop _)) h)
  | fpUnimplemented => exact .inr (raised (.after (.ok ⟨_, _, rfl⟩)) h)

theorem execDecoded_keepsImages {d : Decoded} (h : execDecoded d s = .next t) : KeepsImages s t := by
  rcases execDecoded_next h with ⟨i, hends⟩ | ⟨e, f, rfl⟩
  · exact hends.keepsImages
  · exact .of_mem_eq (takeException_mem e _)

theorem fetchWord_keepsImages {w : Word32} (h : fetchWord s = .ok (w, t)) : KeepsImages s t := by
  simp only [fetchWord, res_bind_ok, Prod.exists, res_pure, Except.ok.injEq, Prod.mk.injEq] at h
  obtain ⟨p, -, bytes, u, hread, -, rfl⟩ := h
  exact (busRead_deviceWrites hread).keepsImages

theorem instructionStep_keepsImages (h : instructionStep s = .next t) : KeepsImages s t := by
  unfold instructionStep at h
  split at h
  · next hfetch => exact (fetchWord_keepsImages hfetch).trans (execDecoded_keepsImages h)
  · next stop _ =>
    rcases (finish_next s t _).mp h with hok | ⟨e, -, rfl⟩
    · cases hok
    · exact .of_mem_eq (takeException_mem e s)

/-! ### Timer, interrupts and the environment -/

theorem afterInstruction_mem (s : State) : (afterInstruction s).mem = s.mem := by
  unfold afterInstruction interruptService
  dsimp only
  split
  · split <;> exact takeException_mem .interrupt _
  · rfl

theorem whenRunning_keepsImages (h : KeepsImages s t) : KeepsImages s (whenRunning s t) := by
  unfold whenRunning
  split
  · exact .refl s
  · exact h

/-- The running signal processor writes no image: its memories and RDRAM lie elsewhere (spec/61_platform_devices.md
R568). -/
theorem applyMove_keepsImages (m : EnvMove) (s : State) : KeepsImages s (applyMove m s) := by
  cases m with
  | spByte p b =>
    refine whenRunning_keepsImages ?_
    split
    · next hmay =>
      have hrange := (spMayWrite_iff p s).mp hmay
      exact keepsImages_setMemByte (not_isImage (.inl (by omega))) b s
    · exact .refl s
  | pins | coldReset | softReset | nmi | push => exact .of_mem_eq rfl
  | spPc | spFlags | spSemaphore | spDma => exact whenRunning_keepsImages (.of_mem_eq rfl)

theorem applyMoves_keepsImages (moves : List EnvMove) (s : State) :
    KeepsImages s (moves.foldl (fun t m => applyMove m t) s) := by
  induction moves generalizing s with
  | nil => exact .refl s
  | cons m rest ih => exact (applyMove_keepsImages m s).trans (ih _)

theorem applyInputs_keepsImages (s : State) : KeepsImages s (applyInputs s) := by
  unfold applyInputs
  split
  · exact .refl s
  · next moves rest _ =>
    exact .trans (.of_mem_eq (t := { s with inputs := rest }) rfl) (applyMoves_keepsImages moves _)

theorem isImage_iff {a : Nat} : isImage a = true ↔ 0x10000000 ≤ a ∧ a < 0x1FC007C0 := by
  simp only [isImage, Bool.and_eq_true, decide_eq_true_eq]

/-- A cold reset forgets RDRAM, the SP memories and PIF RAM alone (spec/70_reset_and_hazards.md R625). -/
theorem coldResetEntry_keepsImages (s : State) : KeepsImages s (coldResetEntry s) := fun hwf => by
  refine ⟨wf_forget _ _ _ (wf_forget _ _ _ (wf_forget _ _ _ hwf)), fun a ha => ?_⟩
  obtain ⟨h1, h2⟩ := isImage_iff.mp ha
  exact lookup_coldMemory_image hwf h1 h2

theorem serviceResets_keepsImages (s : State) : KeepsImages s (serviceResets s) := by
  unfold serviceResets
  split
  · exact coldResetEntry_keepsImages (releaseResets s)
  · split <;> exact .of_mem_eq rfl

theorem beginTick_keepsImages (s : State) : KeepsImages s (beginTick s) :=
  (applyInputs_keepsImages s).trans (serviceResets_keepsImages _)

theorem step_keepsImages (h : step s = .next t) : KeepsImages s t := by
  unfold step endTick at h
  split at h
  · next u hu =>
    cases h
    exact ((beginTick_keepsImages s).trans (instructionStep_keepsImages hu)).trans (.of_mem_eq (afterInstruction_mem u))
  · cases h
  · cases h

end

/-- Settles O60: the gap, the instruction step and what follows it each keep the images, and a byte of an image reads by
what memory lists there (log 7). -/
theorem imagesNeverChange : Obligations.ImagesNeverChange := by
  unfold Obligations.ImagesNeverChange
  intro s t a hwf h h1 h2
  have hlookup := (step_keepsImages h hwf).2 a (isImage_iff.mpr ⟨h1, h2⟩)
  exact ⟨hlookup, memByte_image_congr h1 h2 hlookup⟩

end Sys2Proof.Machine
end

section
/-! Proofs of the family 60_exceptions: vectors, timer and interrupt service, the modes, and what a user program can
change (spec/60_exceptions.md R460 to R502; spec/45_cop0.md R365). -/

namespace Sys2Proof.Machine

/-! ### Vectors -/

/-- Settles O46: the base by BEV, the offset by EXL and the kind of exception. -/
theorem exceptionVectors : Obligations.ExceptionVectors := by
  unfold Obligations.ExceptionVectors
  intro e s
  rw [(enters_takeException e s).pc, exceptionVector, statusBev, statusExl]
  generalize s.cp0.status.getLsbD 22 = bev
  generalize s.cp0.status.getLsbD 1 = exl
  cases exl
  case true => cases bev <;> rfl
  case false =>
    cases e
    case tlbRefill store xtlb va => cases bev <;> cases xtlb <;> rfl
    all_goals cases bev <;> rfl

/-! ### Interrupt service -/

/-- Line n of Cause.IP with the pins on lines 2 to 6 (spec/60_exceptions.md R470). -/
def interruptLine (s : State) (n : Nat) : Bool :=
  if 2 ≤ n ∧ n ≤ 6 then s.intPins.getLsbD (n - 2) else s.cp0.cause.ip.getLsbD n

section
variable {s : State} {n : Nat}

theorem ipWithPins_eq (s : State) :
    ipWithPins s.intPins s.cp0.cause.ip = BitVec.ofFnLE fun k : Fin 8 => interruptLine s k := by
  apply BitVec.eq_of_getLsbD_eq
  intro k hk
  rw [ipWithPins_getLsbD _ _ hk, BitVec.getLsbD_ofFnLE, dif_pos hk, interruptLine]

/-- A line is pending and enabled (spec/60_exceptions.md R475). -/
def LinePending (s : State) (n : Nat) : Prop :=
  n < 8 ∧ interruptLine s n = true ∧ s.cp0.status.getLsbD (8 + n) = true

theorem pendingLines_latchPins : (pendingLines (latchPins s)).getLsbD n = true ↔ LinePending s n := by
  by_cases hn : n < 8
  · have hline := ipWithPins_getLsbD s.intPins s.cp0.cause.ip hn
    simp only [pendingLines, latchPins, statusIm, BitVec.getLsbD_and, BitVec.getLsbD_extractLsb', hline,
      hn, decide_true, Bool.true_and, Bool.and_eq_true, LinePending, interruptLine, true_and]
  · rw [BitVec.getLsbD_of_ge _ _ (Nat.le_of_not_lt hn)]
    exact iff_of_false Bool.false_ne_true fun h => hn h.1

theorem exists_getLsbD_of_ne_zero {w : Nat} {x : BitVec w} : (x != 0) = true ↔ ∃ n, x.getLsbD n = true := by
  rw [bne_iff_ne, ne_eq, ← not_iff_not, not_not, not_exists]
  constructor
  · rintro rfl n
    simp
  · intro h
    apply BitVec.eq_of_getLsbD_eq
    intro k _
    rw [Bool.eq_false_iff.mpr (h k)]
    simp

/-- Line 7 is serviced when no line below it is pending (spec/60_exceptions.md R475). -/
theorem servicedLine_seven : servicedLine (latchPins s) = 7 ↔ ∀ m < 7, ¬ LinePending s m := by
  simp only [← pendingLines_latchPins, servicedLine]
  constructor
  · intro h m hm hp
    cases hfind : (List.range 8).find? fun n => (pendingLines (latchPins s)).getLsbD n with
    | none => exact List.find?_eq_none.mp hfind m (List.mem_range.mpr (by omega)) hp
    | some k =>
      rw [hfind, Option.getD_some] at h
      have hbefore := (List.find?_range_eq_some.mp hfind).2.2 m (by omega)
      simp [hp] at hbefore
  · intro h
    cases hfind : (List.range 8).find? fun n => (pendingLines (latchPins s)).getLsbD n with
    | none => rfl
    | some k =>
      obtain ⟨hk, hmem, -⟩ := List.find?_range_eq_some.mp hfind
      have hlt := List.mem_range.mp hmem
      have hge : ¬ k < 7 := fun hk7 => h k hk7 hk
      rw [Option.getD_some]
      omega

/-- The timer asks for an interrupt outside Cause.IP (spec/60_exceptions.md R502). -/
def TimerPending (onIp7 : Bool) (s : State) : Prop :=
  onIp7 = false ∧ s.timerCond = true ∧ s.cp0.status.getLsbD 15 = true

theorem timerRequests_iff {onIp7 : Bool} : timerRequests onIp7 (latchPins s) = true ↔ TimerPending onIp7 s := by
  simp only [timerRequests, latchPins, statusIm, BitVec.getLsbD_extractLsb', TimerPending, Bool.and_eq_true,
    Bool.not_eq_true', Nat.reduceLT, Nat.reduceAdd, decide_true, Bool.true_and, and_assoc]

/-- When an interrupt is serviced (spec/60_exceptions.md R475). -/
theorem interruptDue_iff {onIp7 : Bool} : interruptDue onIp7 (latchPins s) = true ↔
    (s.cp0.status.getLsbD 0 = true ∧ s.cp0.status.getLsbD 1 = false ∧ s.cp0.status.getLsbD 2 = false) ∧
      ((∃ n, LinePending s n) ∨ TimerPending onIp7 s) := by
  have hstatus : (latchPins s).cp0.status = s.cp0.status := rfl
  simp only [interruptDue, hstatus, statusIe, statusExl, statusErl, Bool.and_eq_true, Bool.or_eq_true,
    Bool.not_eq_true', exists_getLsbD_of_ne_zero, pendingLines_latchPins, timerRequests_iff, and_assoc]

theorem takeException_timerCond (e : Exc) (s : State) : (takeException e s).timerCond = s.timerCond :=
  (congrArg State.timerCond (enters_takeException e s).rest :)

end

/-! ### Modes -/

section
variable {i : Instr} {s t : State}

theorem modeOf_exl (st : Word32) : modeOf (st ||| 0x00000002#32) = some .kernel := by
  simp [modeOf, statusExl]

theorem takeException_kernel (e : Exc) (s : State) : modeOf (takeException e s).cp0.status = some .kernel := by
  rw [(enters_takeException e s).exl]
  exact modeOf_exl _

theorem cop0Write_status {n : Reg} {v : Word} (h : cop0Write n v s = .ok t) (hn : n ≠ 12) :
    t.cp0.status = s.cp0.status := by
  unfold cop0Write at h
  dsimp only at h
  split at h
  -- Status
  case h_10 hnum => exact absurd (BitVec.eq_of_toNat_eq hnum) hn
  -- Config
  case h_13 =>
    simp only [writeConfig, res_bind_ok, res_pure, Except.ok.injEq] at h
    obtain ⟨⟨⟩, -, rfl⟩ := h
    rfl
  all_goals cases h; rfl

/-- Status is written by ERET and by an MTC0 to it (spec/60_exceptions.md R462). -/
def WritesStatus (i : Instr) : Prop := i = .eret ∨ ∃ rt, i = .mtc0 rt 12

theorem InstrWrite.status (h : InstrWrite i s t) (hne : t.cp0.status ≠ s.cp0.status) : WritesStatus i := by
  cases h with
  | device h => exact absurd (congrArg (fun u => u.cp0.status) h.sameCpu :) hne
  | gpr r v => exact absurd (by rw [writeGpr_cp0]) hne
  | eret h => exact .inl h
  | @cop0 n hi v _ _ h =>
    have hn : n = 12 := by_contra fun hn => hne (cop0Write_status h hn)
    subst hn
    obtain ⟨rt, hi | ⟨hwide, -⟩⟩ := hi
    · exact .inr ⟨rt, hi⟩
    · exact absurd hwide (by decide)
  | control | hiLo | cells | fcr31 | linked | random | tlbRead | tlbEntry | index => exact absurd rfl hne

theorem InstrWrites.status (h : InstrWrites i s t) : t.cp0.status ≠ s.cp0.status → WritesStatus i := by
  induction h with
  | refl => exact absurd rfl
  | tail _ hstep ih => exact change_trans (P := fun _ => WritesStatus i) ih hstep.status

/-- Status.KSU as digits of Status. -/
theorem statusKsu_eq_iff (st : Word32) {k : Nat} (hk : k < 4) :
    statusKsu st = BitVec.ofNat 2 k ↔ st.toNat / 8 % 4 = k := by
  rw [statusKsu, ← BitVec.toNat_inj, BitVec.extractLsb'_toNat, BitVec.toNat_ofNat, Nat.mod_eq_of_lt hk,
    Nat.shiftRight_eq_div_pow]

/-- No instruction is fetched in the reserved mode (spec/60_exceptions.md R460). -/
theorem instructionStep_reservedMode (h : modeOf s.cp0.status = none) :
    instructionStep s = .refused .reservedMode := by
  have hfetch : fetchAddress s.pc s = .error (.refused .reservedMode) := by
    simp only [fetchAddress, checkByteOrder, currentMode, h]
    rfl
  rw [instructionStep_fetch_error hfetch]
  rfl

end

/-- Settles O49: the mode is a function of three fields of Status, and the entry of an exception sets EXL, so only a
write of Status leaves kernel mode. -/
theorem modeDecoding : Obligations.ModeDecoding := by
  unfold Obligations.ModeDecoding
  refine ⟨fun st => ?decoding, fun s h => ?reserved, fun i s t h hkernel hleft => ?leaving⟩
  case decoding =>
    intro high
    have hcases : modeOf st = if high then some .kernel else if st.toNat / 8 % 4 = 0 then some .kernel
        else if st.toNat / 8 % 4 = 1 then some .supervisor else if st.toNat / 8 % 4 = 2 then some .user else none := by
      have h0 := statusKsu_eq_iff st (k := 0) (by decide)
      have h1 := statusKsu_eq_iff st (k := 1) (by decide)
      have h2 := statusKsu_eq_iff st (k := 2) (by decide)
      simp only [modeOf, statusExl, statusErl, Bool.or_eq_true, ← h0, ← h1, ← h2, high]
      rfl
    rw [hcases]
    refine ⟨fun h => ?_, fun h hksu => ?_, fun h hksu => ?_, fun h hksu => ?_⟩
    · rcases h with h | h
      · rw [if_pos h]
      · rw [if_pos h, ite_self]
    all_goals
      rw [if_neg h, hksu]
      rfl
  case reserved =>
    rw [step, instructionStep_reservedMode h]
    rfl
  case leaving =>
    cases exec_ends i s t h with
    | completes h => exact h.status fun heq => hleft (by rw [heq, hkernel])
    | raises e f _ ht =>
      subst ht
      exact absurd (takeException_kernel e _) hleft

/-! ### What a user program can change -/

/-- The TLB, the interrupt pins and every coprocessor 0 register but LLAddr are as they were. -/
structure SameSystem (s t : State) : Prop where
  tlb : t.tlb = s.tlb
  pins : t.intPins = s.intPins
  cp0 : { t.cp0 with llAddr := s.cp0.llAddr } = s.cp0

/-- t is s at the entry of an exception before which nothing but FCR31 changed. -/
def Raised (s t : State) : Prop := ∃ e, Enters e { s with fcr31 := t.fcr31 } t

/-- A next state has the system registers as they were, or has entered an exception. -/
def Isolated (s : State) (r : Result) : Prop := ∀ t, r = .next t → SameSystem s t ∨ Raised s t

section
variable {s t u : State} {r : Res State}

theorem SameSystem.of_eq (htlb : t.tlb = s.tlb) (hpins : t.intPins = s.intPins) (hcp0 : t.cp0 = s.cp0) :
    SameSystem s t := ⟨htlb, hpins, by rw [hcp0]⟩

theorem SameSystem.refl (s : State) : SameSystem s s := .of_eq rfl rfl rfl

theorem SameSystem.trans (hst : SameSystem s t) (htu : SameSystem t u) : SameSystem s u where
  tlb := htu.tlb.trans hst.tlb
  pins := htu.pins.trans hst.pins
  cp0 := (congrArg (fun c : Cp0 => { c with llAddr := s.cp0.llAddr }) htu.cp0).trans hst.cp0

theorem SameCpu.sameSystem (h : SameCpu s t) : SameSystem s t :=
  .of_eq (congrArg State.tlb h :) (congrArg State.intPins h :) (congrArg State.cp0 h :)

theorem SameSystem.writeGpr (h : SameSystem s t) (r : Reg) (v : Word) : SameSystem s (writeGpr t r v) :=
  h.trans (.of_eq (writeGpr_tlb t r v) (writeGpr_intPins t r v) (writeGpr_cp0 t r v))

theorem SameSystem.retire (h : SameSystem s t) : SameSystem s (retire t) :=
  h.trans (.of_eq (retire_tlb t) (retire_intPins t) (retire_cp0 t))

theorem SameSystem.writeF32 (h : SameSystem s t) (r : Reg) (v : Word32) : SameSystem s (writeF32 t r v) :=
  h.trans (.of_eq (writeF32_tlb t r v) (writeF32_intPins t r v) (writeF32_cp0 t r v))

theorem SameSystem.writeCell (h : SameSystem s t) (r : Reg) (v : Word) : SameSystem s (writeCell t r v) :=
  h.trans (.of_eq rfl rfl rfl)

theorem SameSystem.writeFp (h : SameSystem s t) (fmt : OpFmt) (r : Reg) (v : Word) :
    SameSystem s (writeFp fmt r v t) := by
  cases fmt
  case s | w => exact h.writeF32 r _
  case d | l => exact h.writeCell r v

theorem raised_takeException (e : Exc) (f : Word32) : Raised s (takeException e { s with fcr31 := f }) := by
  have henters := enters_takeException e { s with fcr31 := f }
  have hf : (takeException e { s with fcr31 := f }).fcr31 = f := (congrArg State.fcr31 henters.rest :)
  refine ⟨e, ?_⟩
  rw [hf]
  exact henters

theorem Enters.raised {e : Exc} (h : Enters e s t) : Raised s t := by
  have hf : t.fcr31 = s.fcr31 := (congrArg State.fcr31 h.rest :)
  refine ⟨e, ?_⟩
  rw [hf]
  exact h

theorem isolated_finish (h : Gives (fun t => SameSystem s t ∨ Raised s t) r) : Isolated s (finish s r) := by
  intro t ht
  rcases (finish_next s t r).mp ht with hr | ⟨e, -, rfl⟩
  · exact h t hr
  · exact .inr (raised_takeException e s.fcr31)

theorem isolated_branch (h : Gives (SameSystem s) r) : Isolated s (finish s r) :=
  isolated_finish (h.mono fun _ => .inl)

theorem isolated_complete (h : Gives (SameSystem s) r) : Isolated s (complete s r) :=
  isolated_branch (.bind fun u hu => .ok (h u hu).retire)

theorem branchTo_sameSystem (h : SameSystem s t) {target : Word} : Gives (SameSystem s) (branchTo target t) := by
  unfold branchTo
  split
  · exact .stop _
  · exact .ok (h.trans (.of_eq rfl rfl rfl))

theorem branchLikelyIf_sameSystem (h : SameSystem s t) {c : Bool} {offset : BitVec 16} :
    Gives (SameSystem s) (branchLikelyIf c offset t) := by
  refine .ite (branchTo_sameSystem h) ?_
  unfold skipSlot
  split
  · exact .stop _
  · exact .ok (h.trans (.of_eq rfl rfl rfl))

/-- A load with anything that keeps the system registers after it. -/
theorem loadBytes_sameSystem {align back n : Nat} {va : Word} {f : Word × State → Res State}
    (h : ∀ m t, SameSystem s t → Gives (SameSystem s) (f (m, t))) :
    Gives (SameSystem s) (loadBytes align back n va s >>= f) := by
  refine .bind fun ⟨m, t⟩ hload => h m t ?_
  simp only [loadBytes, res_bind_ok, Prod.exists, res_pure, Except.ok.injEq, Prod.mk.injEq] at hload
  obtain ⟨p, -, bytes, t, hread, -, rfl⟩ := hload
  have hframe := (busRead_frame _ _ s t bytes hread).1
  exact .of_eq (congrArg State.tlb hframe :) (congrArg State.intPins hframe :) (congrArg State.cp0 hframe :)

theorem loadAligned_sameSystem {n : Nat} {extend : Word → Word} {base rt : Reg} {offset : BitVec 16} :
    Gives (SameSystem s) (loadAligned n extend base rt offset s) :=
  loadBytes_sameSystem fun _ _ h => .ok (h.writeGpr _ _)

theorem loadLinked_sameSystem {n : Nat} {extend : Word → Word} {base rt : Reg} {offset : BitVec 16} :
    Gives (SameSystem s) (loadLinked n extend base rt offset s) :=
  .bind fun _ _ => .bind fun t ht => .ok ((loadAligned_sameSystem t ht).trans ⟨rfl, rfl, rfl⟩)

theorem storeValue_sameSystem {align back n : Nat} {va v : Word} :
    Gives (SameSystem s) (storeValue align back n va v s) :=
  .bind fun _ _ _ hu => (busWrite_sameCpu _ _ _ _ hu).sameSystem

theorem storeConditional_sameSystem {n : Nat} {base rt : Reg} {offset : BitVec 16} :
    Gives (SameSystem s) (storeConditional n base rt offset s) :=
  .bind fun _ _ => .ite
    (.bind fun _ ht => .ok ((busWrite_sameCpu _ _ _ _ ht).sameSystem.writeGpr rt 1))
    (.ok (.writeGpr (.refl s) rt 0))

theorem isolated_fpMove {fmt : OpFmt} {fs fd : Reg} : Isolated s (fpMove fmt fs fd s) := by
  refine isolated_complete (.after (.after (.ok (SameSystem.writeFp ?_ fmt fd _))))
  exact .of_eq rfl rfl rfl

theorem readControl_sameSystem (fs : Reg) (s : State) : SameSystem s (readControl fs s).2 := by
  unfold readControl
  split
  · exact .refl s
  · split
    · exact .refl s
    · exact .of_eq rfl rfl rfl

theorem fpFinish_isolated (q : FpResult) {write : Word → State → State}
    (hw : ∀ v u, SameSystem s u → SameSystem s (write v u)) :
    Gives (fun t => SameSystem s t ∨ Raised s t) (.ok (fpFinish q write s)) := by
  refine .ok ?_
  unfold fpFinish
  dsimp only
  split
  · exact .inr (raised_takeException _ _)
  · exact .inl (.retire (hw _ _ (.of_eq rfl rfl rfl)))

theorem writeControl_isolated (fs : Reg) (v : Word32) (s : State) :
    SameSystem s (writeControl fs v s) ∨ Raised s (writeControl fs v s) := by
  unfold writeControl
  dsimp only
  split
  · split
    · exact .inr (raised_takeException _ _)
    · exact .inl (.retire (.of_eq rfl rfl rfl))
  · exact .inl (.retire (.refl s))

end

/-- What an instruction of neither coprocessor 0 nor CACHE can do to the system registers: one line for each shape of
meaning, with the number of tests that come first. -/
theorem exec_isolated (i : Instr) (s : State) (h : (opF (encode i)).toNat ∉ [16, 47]) : Isolated s (exec i s) := by
  have hgpr (r : Reg) (v : Word) : Gives (SameSystem s) (.ok (writeGpr s r v)) := .ok (.writeGpr (.refl s) r v)
  have hhiLo (hi lo : Word) : Gives (SameSystem s) (.ok (writeHiLo s hi lo)) := .ok (.of_eq rfl rfl rfl)
  cases i
  case mfc0 | mtc0 | dmfc0 | dmtc0 | tlbr | tlbwi | tlbwr | tlbp | cache | eret => exact absurd (by simp [encode]) h
  -- one general register
  case slti | sltiu | andi | ori | xori | lui | and | or | xor | nor | slt | sltu | sll | sllv | mfhi | mflo =>
    exact isolated_complete (hgpr _ _)
  case addiu | daddiu | srl | sra | srlv | srav | daddu | dsubu | dsll | dsrl | dsra | dsllv | dsrlv | dsrav | dsll32
      | dsrl32 | dsra32 | mfc1 => exact isolated_complete (.after (hgpr _ _))
  case addi | daddi | addu | subu | dadd | dsub | dmfc1 => exact isolated_complete (.after (.after (hgpr _ _)))
  case add | sub => exact isolated_complete (.after (.after (.after (hgpr _ _))))
  -- HI and LO
  case mult | multu | dmult | dmultu => exact isolated_complete (.after (hhiLo _ _))
  case div | ddiv => exact isolated_complete (.after (.ite (hhiLo _ _) (.ite (hhiLo _ _) (hhiLo _ _))))
  case divu | ddivu => exact isolated_complete (.after (.ite (hhiLo _ _) (hhiLo _ _)))
  case mthi | mtlo => exact isolated_complete (hhiLo _ _)
  -- jumps and branches
  case j | jr | beq | bne | blez | bgtz | bltz | bgez => exact isolated_branch (branchTo_sameSystem (.refl s))
  case jal => exact isolated_branch (branchTo_sameSystem (.writeGpr (.refl s) 31 _))
  case jalr rs rd => exact isolated_branch (.after (branchTo_sameSystem (.writeGpr (.refl s) rd _)))
  case beql | bnel | blezl | bgtzl | bltzl | bgezl => exact isolated_branch (branchLikelyIf_sameSystem (.refl s))
  case bltzal | bgezal => exact isolated_branch (.after (branchTo_sameSystem (.writeGpr (.refl s) 31 _)))
  case bltzall | bgezall => exact isolated_branch (.after (branchLikelyIf_sameSystem (.writeGpr (.refl s) 31 _)))
  case bc1f | bc1t => exact isolated_branch (.after (branchTo_sameSystem (.refl s)))
  case bc1fl | bc1tl => exact isolated_branch (.after (branchLikelyIf_sameSystem (.refl s)))
  -- loads and stores
  case lb | lbu | lh | lhu | lw => exact isolated_complete loadAligned_sameSystem
  case lwu | ld => exact isolated_complete (.after loadAligned_sameSystem)
  case lwl | lwr => exact isolated_complete (loadBytes_sameSystem fun _ _ h => .ok (h.writeGpr _ _))
  case ldl | ldr => exact isolated_complete (.after (loadBytes_sameSystem fun _ _ h => .ok (h.writeGpr _ _)))
  case ll => exact isolated_complete loadLinked_sameSystem
  case lld => exact isolated_complete (.after loadLinked_sameSystem)
  case sb | sh | sw | swl | swr => exact isolated_complete storeValue_sameSystem
  case sd | sdl | sdr | swc1 => exact isolated_complete (.after storeValue_sameSystem)
  case sdc1 => exact isolated_complete (.after (.after storeValue_sameSystem))
  case sc => exact isolated_complete storeConditional_sameSystem
  case scd => exact isolated_complete (.after storeConditional_sameSystem)
  case lwc1 => exact isolated_complete (.after (loadBytes_sameSystem fun _ _ h => .ok (h.writeF32 _ _)))
  case ldc1 => exact isolated_complete (.after (.after (loadBytes_sameSystem fun _ _ h => .ok (h.writeCell _ _))))
  -- traps and system instructions
  case tge | tgeu | tlt | tltu | teq | tne | tgei | tgeiu | tlti | tltiu | teqi | tnei =>
    exact isolated_complete (.after (.ok (.refl s)))
  case syscall | brk => exact isolated_branch (r := raise _) (.stop _)
  case sync => exact isolated_complete (.ok (.refl s))
  -- floating point
  case cfc1 rt fs =>
    exact isolated_complete (.after (.ok ((readControl_sameSystem fs s).writeGpr rt _)))
  case ctc1 rt fs => exact isolated_finish (.after (.ok (writeControl_isolated fs _ s)))
  case mtc1 => exact isolated_complete (.after (.ok (.writeF32 (.refl s) _ _)))
  case dmtc1 => exact isolated_complete (.after (.after (.ok (.writeCell (.refl s) _ _))))
  case movS | movD => exact isolated_fpMove
  case addS | addD | subS | subD | mulS | mulD | divS | divD =>
    exact isolated_finish (.after (.after (.after (.after (fpFinish_isolated _ fun _ _ h => h.writeFp _ _ _)))))
  case sqrtS | sqrtD | absS | absD | negS | negD | roundLS | roundLD | truncLS | truncLD | ceilLS | ceilLD | floorLS
      | floorLD | roundWS | roundWD | truncWS | truncWD | ceilWS | ceilWD | floorWS | floorWD | cvtSD | cvtSW | cvtSL
      | cvtDS | cvtDW | cvtDL | cvtWS | cvtWD | cvtLS | cvtLD =>
    exact isolated_finish (.after (.after (.after (fpFinish_isolated _ fun _ _ h => h.writeFp _ _ _))))
  -- the 32 compares
  all_goals
    exact isolated_finish (.after (.after (.after (fpFinish_isolated _ fun _ _ h => h.trans (.of_eq rfl rfl rfl)))))

/-- Settles O50: an instruction of coprocessor 0 enters Coprocessor Unusable; any other keeps the system registers or
enters an exception of its own. -/
theorem userIsolation : Obligations.UserIsolation := by
  unfold Obligations.UserIsolation
  intro i s t h huser hcu0
  have hends : SameSystem s t ∨ Raised s t := by
    by_cases hop : (opF (encode i)).toNat ∈ [16, 47]
    · obtain ⟨t', ht', henters⟩ := cop0_unusable hop ⟨.user, huser, hcu0⟩
      cases h.symm.trans ht'
      exact .inr henters.raised
    · exact exec_isolated i s hop t h
  rcases hends with hsame | ⟨e, henters⟩
  · exact ⟨hsame.tlb, hsame.pins, .inl hsame.cp0⟩
  · have hrest := henters.rest
    refine ⟨(congrArg State.tlb hrest :), (congrArg State.intPins hrest :), .inr ⟨e, henters, ?_⟩⟩
    rw [henters.exl]
    exact modeOf_exl _

end Sys2Proof.Machine

/-! The two theorems named like the operations they speak of stand outside the namespace of those. -/

namespace Sys2Proof

open Machine

/-- Settles O48: Count is a number modulo 2^32, and only the increment can reach Compare. -/
theorem timerStep : Obligations.TimerStep := by
  unfold Obligations.TimerStep
  intro s count ticked counted
  have hcount : s.cp0.count + 1 = count := BitVec.eq_of_toNat_eq (by simp [count, BitVec.toNat_add])
  refine ⟨fun onIp7 => rfl, fun onIp7 hne => ?_, fun heq => ?_⟩
  · have hbeq : (count == s.cp0.compare) = false := beq_eq_false_iff_ne.mpr hne
    simp only [Machine.timerStep, if_true, hcount, hbeq, Bool.and_false, Bool.false_and, Bool.false_eq_true, if_false]
    rfl
  · have hbeq : (count == s.cp0.compare) = true := beq_iff_eq.mpr heq
    constructor <;>
      simp only [Machine.timerStep, if_true, hcount, hbeq, Bool.and_self, Bool.not_true, Bool.not_false, Bool.and_false,
        Bool.false_eq_true, if_false] <;>
      rfl

/-- Settles O47: the pins go to their lines first; then the interrupt is entered or nothing more happens. -/
theorem interruptService : Obligations.InterruptService := by
  unfold Obligations.InterruptService
  intro onIp7 s line u pending timer enabled t
  have hu : latchPins s = u := by
    rw [latchPins, ipWithPins_eq]
    rfl
  constructor
  · intro h
    exact (if_neg fun hdue : interruptDue onIp7 (latchPins s) = true => h (interruptDue_iff.mp hdue)).trans hu
  · intro henabled hpending
    have hdue : interruptDue onIp7 (latchPins s) = true := interruptDue_iff.mpr ⟨henabled, hpending⟩
    have ht : t = if (!onIp7 && servicedLine (latchPins s) == 7) = true
        then { takeException .interrupt u with timerCond := false } else takeException .interrupt u := by
      rw [← hu]
      exact if_pos hdue
    have henters := enters_takeException .interrupt u
    have hcond : (takeException .interrupt u).timerCond = s.timerCond := takeException_timerCond _ u
    have hserviced : (!onIp7 && servicedLine (latchPins s) == 7) = true ↔
        onIp7 = false ∧ ∀ n < 7, ¬ LinePending s n := by
      rw [Bool.and_eq_true, Bool.not_eq_true', beq_iff_eq, servicedLine_seven]
    rw [ht]
    by_cases hc : (!onIp7 && servicedLine (latchPins s) == 7) = true
    · rw [if_pos hc]
      exact ⟨{ henters with rest := (congrArg (fun v : State => { v with timerCond := s.timerCond }) henters.rest :) },
        iff_of_true rfl (.inr (hserviced.mp hc))⟩
    · rw [if_neg hc]
      refine ⟨?_, hcond ▸ ⟨.inl, fun h => h.resolve_right fun h => hc (hserviced.mpr h)⟩⟩
      rw [← hcond]
      exact henters

end Sys2Proof
end

section
/-! Proofs of the family 47_fpu_arith: a compare orders the extended reals (spec/47_fpu_arith.md R435; spec/46_fpu.md
R393). -/

namespace Sys2Proof.Machine

/-! ### The magnitude of a pattern as a number of its smallest unit -/

/-- The value of the bits m below the sign, k of them the fraction, in units of the smallest denormal
(spec/46_fpu.md R393). -/
def magnitudeUnits (k m : Nat) : Nat :=
  if m / 2 ^ k = 0 then m % 2 ^ k else (2 ^ k + m % 2 ^ k) * 2 ^ (m / 2 ^ k - 1)

section
variable {k m n : Nat}

theorem magnitudeUnits_lt (k m : Nat) : magnitudeUnits k m < 2 ^ k * 2 ^ (m / 2 ^ k) := by
  have hfrac : m % 2 ^ k < 2 ^ k := Nat.mod_lt _ (by positivity)
  unfold magnitudeUnits
  split
  · next he => simpa [he] using hfrac
  · next he =>
    obtain ⟨e, he⟩ := Nat.exists_eq_succ_of_ne_zero he
    have hpos : 0 < 2 ^ e := by positivity
    rw [he, Nat.succ_sub_one, Nat.pow_succ, ← Nat.mul_assoc, Nat.mul_right_comm]
    exact Nat.mul_lt_mul_of_pos_right (by omega) hpos

theorem le_magnitudeUnits (h : m / 2 ^ k ≠ 0) : 2 ^ k * 2 ^ (m / 2 ^ k - 1) ≤ magnitudeUnits k m := by
  rw [magnitudeUnits, if_neg h]
  exact Nat.mul_le_mul_right _ (Nat.le_add_right _ _)

/-- The larger exponent, or the larger fraction at the same exponent, gives the larger value. -/
theorem magnitudeUnits_strictMono (k : Nat) : StrictMono (magnitudeUnits k) := by
  intro m n hmn
  rcases (Nat.div_le_div_right (c := 2 ^ k) hmn.le).lt_or_eq with hexp | hexp
  · calc magnitudeUnits k m < 2 ^ k * 2 ^ (m / 2 ^ k) := magnitudeUnits_lt k m
      _ ≤ 2 ^ k * 2 ^ (n / 2 ^ k - 1) :=
        Nat.mul_le_mul_left _ (Nat.pow_le_pow_right (by decide) (Nat.le_sub_one_of_lt hexp))
      _ ≤ magnitudeUnits k n := le_magnitudeUnits (Nat.ne_zero_of_lt hexp)
  · have hfrac : m % 2 ^ k < n % 2 ^ k := by
      have hm := Nat.div_add_mod m (2 ^ k)
      have hn := Nat.div_add_mod n (2 ^ k)
      rw [hexp] at hm
      omega
    unfold magnitudeUnits
    rw [hexp]
    split
    · exact hfrac
    · exact Nat.mul_lt_mul_of_pos_right (by omega) (by positivity)

end

/-! ### The extended real of a magnitude and of an order -/

/-- The smallest positive value of a format (spec/46_fpu.md R393). -/
noncomputable def smallestUnit (f : Fmt) : ℝ := 2 ^ (f.emin - (f.precision - 1 : Nat))

/-- The extended real of the bits m below the sign: infinity at the largest exponent. -/
noncomputable def magnitudeValue (f : Fmt) (m : Nat) : EReal :=
  if m / 2 ^ (f.precision - 1) = f.expOnes then ⊤
  else ((magnitudeUnits (f.precision - 1) m * smallestUnit f : ℝ) : EReal)

/-- The extended real of a signed magnitude, as `fpOrder` numbers the patterns. -/
noncomputable def orderValue (f : Fmt) (n : Int) : EReal :=
  if n < 0 then -magnitudeValue f n.natAbs else magnitudeValue f n.natAbs

/-- The magnitude of infinity; a larger one is a NaN. -/
def infinityMagnitude (f : Fmt) : Nat := f.expOnes * 2 ^ (f.precision - 1)

section
variable {f : Fmt} {m n : Nat} {v : Word}

theorem smallestUnit_pos (f : Fmt) : 0 < smallestUnit f := by
  unfold smallestUnit
  positivity

theorem magnitudeValue_zero (f : Fmt) : magnitudeValue f 0 = 0 := by
  have hexp : 0 / 2 ^ (f.precision - 1) ≠ f.expOnes := by cases f <;> decide
  rw [magnitudeValue, if_neg hexp]
  simp [magnitudeUnits]

theorem magnitudeValue_lt (hmn : m < n) (hn : n ≤ infinityMagnitude f) : magnitudeValue f m < magnitudeValue f n := by
  have hpos : 0 < 2 ^ (f.precision - 1) := by positivity
  have hm : m / 2 ^ (f.precision - 1) ≠ f.expOnes :=
    ((Nat.div_lt_iff_lt_mul hpos).mpr (hmn.trans_le hn)).ne
  rw [magnitudeValue, magnitudeValue, if_neg hm]
  split
  · exact EReal.coe_lt_top _
  · rw [EReal.coe_lt_coe_iff]
    exact mul_lt_mul_of_pos_right (Nat.cast_lt.mpr (magnitudeUnits_strictMono _ hmn)) (smallestUnit_pos f)

theorem magnitudeValue_nonneg (hn : n ≤ infinityMagnitude f) : 0 ≤ magnitudeValue f n := by
  rw [← magnitudeValue_zero f]
  rcases Nat.eq_zero_or_pos n with rfl | hpos
  · exact le_rfl
  · exact (magnitudeValue_lt hpos hn).le

/-- Of two orders the larger is the larger value. -/
theorem orderValue_strictMonoOn (f : Fmt) : StrictMonoOn (orderValue f) {n | n.natAbs ≤ infinityMagnitude f} := by
  intro a (ha : a.natAbs ≤ infinityMagnitude f) b (hb : b.natAbs ≤ infinityMagnitude f) hab
  unfold orderValue
  split
  case isTrue hneg =>
    split
    · exact EReal.neg_lt_neg_iff.mpr (magnitudeValue_lt (by omega) ha)
    · have hlt : 0 < magnitudeValue f a.natAbs := by
        rw [← magnitudeValue_zero f]
        exact magnitudeValue_lt (by omega) ha
      have hlow : -magnitudeValue f a.natAbs < 0 := by
        rw [← neg_zero]
        exact EReal.neg_lt_neg_iff.mpr hlt
      exact hlow.trans_le (magnitudeValue_nonneg hb)
  case isFalse hpos =>
    rw [if_neg (by omega)]
    exact magnitudeValue_lt (by omega) hb

/-! ### Patterns -/

theorem fpMagnitude_eq (f : Fmt) (v : Word) : fpMagnitude f v = v.toNat % (2 ^ (f.precision - 1) * 2 ^ f.expBits) := by
  cases f <;> exact BitVec.extractLsb'_toNat ..

theorem fpMagnitude_div (f : Fmt) (v : Word) : fpMagnitude f v / 2 ^ (f.precision - 1) = fpExp f v := by
  rw [fpMagnitude_eq, Nat.mod_mul_right_div_self, fpExp_eq]

theorem fpMagnitude_mod (f : Fmt) (v : Word) : fpMagnitude f v % 2 ^ (f.precision - 1) = fpFrac f v := by
  rw [fpMagnitude_eq, Nat.mod_mul_right_mod, fpFrac_eq]

/-- A pattern that is no NaN has at most the magnitude of infinity (spec/46_fpu.md R393). -/
theorem fpMagnitude_le (h : isNan f v = false) : fpMagnitude f v ≤ infinityMagnitude f := by
  have hexp : fpExp f v < 2 ^ f.expBits := by
    rw [fpExp_eq]
    exact Nat.mod_lt _ (by positivity)
  have hones : 2 ^ f.expBits = f.expOnes + 1 := by cases f <;> rfl
  have hfrac : fpExp f v = f.expOnes → fpFrac f v = 0 := by
    intro he
    have hne : f.expOnes ≠ 0 := by cases f <;> decide
    unfold isNan fpClass at h
    by_contra hf
    simp only [he, if_neg hne, if_true, if_neg hf] at h
    split at h <;> exact absurd h (by decide)
  have hdigits := Nat.div_add_mod (fpMagnitude f v) (2 ^ (f.precision - 1))
  have hlt := fpFrac_lt f v
  rw [fpMagnitude_div, fpMagnitude_mod] at hdigits
  rw [← hdigits, infinityMagnitude, Nat.mul_comm f.expOnes]
  rcases (show fpExp f v ≤ f.expOnes by omega).eq_or_lt with he | he
  · rw [hfrac he, he, Nat.add_zero]
  · calc 2 ^ (f.precision - 1) * fpExp f v + fpFrac f v
        ≤ 2 ^ (f.precision - 1) * (fpExp f v + 1) := by rw [Nat.mul_succ]; omega
      _ ≤ 2 ^ (f.precision - 1) * f.expOnes := Nat.mul_le_mul_left _ he

theorem natAbs_fpOrder (f : Fmt) (v : Word) : (fpOrder f v).natAbs = fpMagnitude f v := by
  unfold fpOrder
  split
  · rw [Int.natAbs_neg, Int.natAbs_natCast]
  · exact Int.natAbs_natCast _

/-- The value of a finite pattern, denormals included, in units of the smallest denormal. -/
theorem fpReal_eq_units (f : Fmt) (v : Word) : ((fpReal f v : ℚ) : ℝ) =
    signedBy (fpSign f v) (magnitudeUnits (f.precision - 1) (fpMagnitude f v) * smallestUnit f) := by
  have hmagnitude : (((if fpExp f v = 0 then (fpFrac f v : ℚ) * 2 ^ (f.emin - (f.precision - 1 : Nat))
      else ((2 ^ (f.precision - 1) + fpFrac f v : Nat) : ℚ) * 2 ^ ((fpExp f v : Int) - f.emax - (f.precision - 1 : Nat))
        : ℚ) : ℝ)) = magnitudeUnits (f.precision - 1) (fpMagnitude f v) * smallestUnit f := by
    rw [magnitudeUnits, fpMagnitude_div, fpMagnitude_mod, smallestUnit]
    split
    · push_cast
      rfl
    · next he =>
      obtain ⟨e, he⟩ := Nat.exists_eq_succ_of_ne_zero he
      have hexp : ((fpExp f v : Int) - f.emax - (f.precision - 1 : Nat)) =
          (e : Int) + (f.emin - (f.precision - 1 : Nat)) := by
        have hbias : f.emin = 1 - f.emax := by cases f <;> rfl
        rw [he, hbias]
        push_cast
        ring
      rw [hexp, he, Nat.succ_sub_one]
      push_cast
      rw [zpow_add₀ (by norm_num), zpow_natCast]
      ring
  rw [← hmagnitude, fpReal]
  unfold signedBy
  split
  · push_cast; rfl
  · rfl

theorem fpExtended_eq (f : Fmt) (v : Word) : fpExtended f v = orderValue f (fpOrder f v) := by
  have hsigned : fpExtended f v =
      if fpSign f v then -magnitudeValue f (fpMagnitude f v) else magnitudeValue f (fpMagnitude f v) := by
    rw [fpExtended, magnitudeValue, fpMagnitude_div, fpReal_eq_units]
    unfold signedBy
    split <;> split <;> rfl
  rw [hsigned, orderValue, natAbs_fpOrder, fpOrder]
  split
  · split
    · rfl
    · have hzero : fpMagnitude f v = 0 := by omega
      rw [hzero, magnitudeValue_zero, neg_zero]
  · rw [if_neg (by omega)]

theorem isNan_iff : isNan f v = true ↔ fpClass f v = .snan ∨ fpClass f v = .qnan := by
  simp [isNan]

end

/-- Settles O45: `fpOrder` numbers the patterns that are no NaN in the order of their values. -/
theorem compareByValue : Obligations.CompareByValue := by
  unfold Obligations.CompareByValue
  intro f cond a b nan r
  have hnan : (nan a ∨ nan b) ↔ (isNan f a || isNan f b) = true := by
    rw [Bool.or_eq_true, isNan_iff, isNan_iff]
  have hvalue (c : Bool) : (if c then (1 : Word) else 0) = 1 ↔ c = true := by cases c <;> decide
  constructor
  · intro h
    have hun := hnan.mp h
    refine ⟨?_, ?_⟩
    · simp only [r, fpCompare, hvalue, hun]
      simp
    · simp only [r, fpCompare, hun, Bool.true_and, Bool.or_eq_true, isSnan, beq_iff_eq, or_assoc]
      rfl
  · intro h
    have hun : (isNan f a || isNan f b) = false := Bool.eq_false_iff.mpr (mt hnan.mpr h)
    obtain ⟨ha, hb⟩ := Bool.or_eq_false_iff.mp hun
    have ha' : fpOrder f a ∈ {n : Int | n.natAbs ≤ infinityMagnitude f} :=
      (natAbs_fpOrder f a).trans_le (fpMagnitude_le ha)
    have hb' : fpOrder f b ∈ {n : Int | n.natAbs ≤ infinityMagnitude f} :=
      (natAbs_fpOrder f b).trans_le (fpMagnitude_le hb)
    have hlt : fpExtended f a < fpExtended f b ↔ fpOrder f a < fpOrder f b := by
      rw [fpExtended_eq, fpExtended_eq, (orderValue_strictMonoOn f).lt_iff_lt ha' hb']
    have heq : fpExtended f a = fpExtended f b ↔ fpOrder f a = fpOrder f b := by
      rw [fpExtended_eq, fpExtended_eq, (orderValue_strictMonoOn f).injOn.eq_iff ha' hb']
    refine ⟨?_, ?_⟩
    · simp only [r, fpCompare, hvalue, hun, hlt, heq]
      simp
    · simp only [r, fpCompare, hun, Bool.false_and]
      rfl

end Sys2Proof.Machine
end

section
/-! Proofs of the family 60_exceptions: the watchpoint, and the refusal of reversed byte order (spec/60_exceptions.md
R488; spec/20_memory.md R101). -/

namespace Sys2Proof.Machine

section
variable {store : Bool} {n : Nat} {va : Word} {p : PAddr} {s : State}

/-- The doubleword of an address, by its upper bits. -/
theorem extractDoubleword_eq_iff (p q : Word32) :
    p.extractLsb' 3 29 = q.extractLsb' 3 29 ↔ p.toNat / 8 = q.toNat / 8 := by
  rw [← BitVec.toNat_inj, BitVec.extractLsb'_toNat, BitVec.extractLsb'_toNat, Nat.shiftRight_eq_div_pow,
    Nat.shiftRight_eq_div_pow]
  have hp := p.isLt
  have hq := q.isLt
  omega

theorem watchMatches_iff : watchMatches store p s = true ↔ p.toNat / 8 = s.cp0.watchLo.toNat / 8 ∧
    s.cp0.watchHi = 0 ∧ s.cp0.watchLo.getLsbD (if store then 0 else 1) = true := by
  rw [watchMatches, Bool.and_eq_true, Bool.and_eq_true, beq_iff_eq, beq_iff_eq, extractDoubleword_eq_iff, and_assoc]
  cases store <;> rfl

/-- An aligned access that translates is left to the Watch check (spec/20_memory.md R122). -/
theorem dataAddress_translated (ho : PlainOrder s) (ha : va.toNat % n = 0) (hp : translate store va s = .ok p) :
    dataAddress store n va s = checkWatch store p s >>= fun _ => .ok p := by
  have halign : isAligned n va = true := beq_iff_eq.mpr ha
  simp only [dataAddress, checkByteOrder_ok ho, halign, hp, res_ok_bind, require_true, res_pure]

theorem checkByteOrder_reversed (hmode : modeOf s.cp0.status = some .user) (hre : s.cp0.status.getLsbD 25 = true) :
    checkByteOrder s = .error (.refused .reverseEndian) := by
  rw [checkByteOrder, currentMode_eq s .user hmode, res_ok_bind, statusRe, hre]
  rfl

theorem dataAddress_reversed (h : checkByteOrder s = .error (.refused .reverseEndian)) :
    dataAddress store n va s = .error (.refused .reverseEndian) := by
  rw [dataAddress, h]
  rfl

theorem fetchAddress_reversed (h : checkByteOrder s = .error (.refused .reverseEndian)) :
    fetchAddress va s = .error (.refused .reverseEndian) := by
  rw [fetchAddress, h]
  rfl

end

/-- Settles O29: Watch is the last check of an access and the byte order its first. -/
theorem watchAndByteOrder : Obligations.WatchAndByteOrder := by
  unfold Obligations.WatchAndByteOrder
  refine ⟨fun store n va p s ho ha hp => ?watch, fun s hmode hre => ?byteOrder⟩
  case watch =>
    intro watched masked
    have hmatch : watchMatches store p s = true ↔ watched := watchMatches_iff
    have hmasked : (statusExl s.cp0.status || statusErl s.cp0.status) = true ↔ masked := Bool.or_eq_true _ _ ▸ .rfl
    rw [dataAddress_translated ho ha hp, checkWatch]
    refine ⟨fun hw hm => ?_, fun hw hm => ?_, fun hw => ?_⟩
    · rw [if_pos (hmatch.mpr hw), if_neg (mt hmasked.mp hm)]
      rfl
    · rw [if_pos (hmatch.mpr hw), if_pos (hmasked.mpr hm)]
      rfl
    · rw [if_neg (mt hmatch.mp hw)]
      rfl
  case byteOrder =>
    have horder := checkByteOrder_reversed hmode hre
    refine ⟨fun store n va => dataAddress_reversed horder, fun i a ha hready => ?_, ?_⟩
    · exact exec_access_error ha hready (dataAddress_reversed horder)
    · exact instructionStep_fetch_error (fetchAddress_reversed horder)

end Sys2Proof.Machine
end

section
/-! Proofs of the family 61_platform_devices: a word of a register block, stored and loaded through the bus
(spec/61_platform_devices.md R530, R531; spec/20_memory.md R103). -/

namespace Sys2Proof.Machine

/-! ### Where the blocks lie -/

/-- The slot of the device table that holds a block (spec/61_platform_devices.md R530). -/
def blockSlot : Block → Slot
  | .vi => .viReg
  | .pi => .piReg
  | .si => .siReg
  | .sp => .spReg
  | .spPc => .spPcReg

/-- The first address of a block (spec/20_memory.md R150). -/
def blockFirst : Block → Nat
  | .vi => 0x04400000
  | .pi => 0x04600000
  | .si => 0x04800000
  | .sp => 0x04040000
  | .spPc => 0x04080000

theorem blockRow_mem (blk : Block) :
    ⟨blockSlot blk, blockFirst blk, blockFirst blk + 4 * blockSlots blk - 1⟩ ∈ deviceTable := by
  cases blk <;> decide

/-- An address in a row of the device table resolves to that row, for the rows do not overlap. -/
theorem resolve_of_row {p : PAddr} {row : SlotRow} (hrow : row ∈ deviceTable) (hfirst : row.first ≤ p.toNat)
    (hlast : p.toNat ≤ row.last) : resolve p = some (row.slot, p.toNat - row.first) := by
  have hclaims : claims p.toNat row = true := by
    simp only [claims, Bool.and_eq_true, decide_eq_true_eq]
    exact ⟨hfirst, hlast⟩
  obtain ⟨row', hfind⟩ := Option.isSome_iff_exists.mp (List.find?_isSome.mpr ⟨row, hrow, hclaims⟩)
  have hclaims' := List.find?_some hfind
  simp only [claims, Bool.and_eq_true, decide_eq_true_eq] at hclaims'
  obtain rfl : row = row' := by
    have hdisjoint := deviceTable_disjoint row hrow row' (List.mem_of_find?_eq_some hfind)
    exact hdisjoint.resolve_right (by omega)
  rw [resolve_eq, hfind]
  rfl

/-- p is the address of slot k of a block. -/
structure SlotAt (blk : Block) (k : Nat) (p : PAddr) : Prop where
  address : p.toNat = blockFirst blk + 4 * k
  inBlock : k < blockSlots blk

section
variable {blk : Block} {k i : Nat} {p : PAddr} {s : State}

theorem SlotAt.small (h : SlotAt blk k p) : p.toNat + 4 ≤ 0x04900000 := by
  obtain ⟨haddress, hk⟩ := h
  cases blk <;> simp only [blockFirst, blockSlots] at haddress hk <;> omega

theorem SlotAt.toNat_byte (h : SlotAt blk k p) (hi : i < 4) : (p + BitVec.ofNat 32 i).toNat = p.toNat + i := by
  have hsmall := h.small
  rw [BitVec.toNat_add, BitVec.toNat_ofNat]
  omega

theorem SlotAt.resolve_byte (h : SlotAt blk k p) (hi : i < 4) :
    resolve (p + BitVec.ofNat 32 i) = some (blockSlot blk, 4 * k + i) := by
  have hbyte := h.toNat_byte hi
  obtain ⟨haddress, hk⟩ := h
  rw [resolve_of_row (blockRow_mem blk) (by dsimp only; omega) (by dsimp only; omega), hbyte, haddress]
  congr 2
  dsimp only
  omega

/-! ### A word stored -/

theorem SlotAt.writeByte (h : SlotAt blk k p) (hi : i < 4) (b : Byte) (s : State) :
    writeByte (p + BitVec.ofNat 32 i) b s = .ok (setWriteSide blk k (setByteOfReg (writeSide blk k s) i b) s) := by
  have hk : (4 * k + i) / 4 = k := by omega
  have hi' : (4 * k + i) % 4 = i := by omega
  have hwrite : Machine.writeByte (p + BitVec.ofNat 32 i) b s = .ok (writeRegByte blk (4 * k + i) b s) := by
    rw [Machine.writeByte, h.resolve_byte hi]
    cases blk <;> rfl
  rw [hwrite, writeRegByte, hk, hi']

theorem setWriteSide_setWriteSide (blk : Block) (k : Nat) (v w : Word32) (s : State) :
    setWriteSide blk k w (setWriteSide blk k v s) = setWriteSide blk k w s := by
  cases blk <;> simp only [setWriteSide, Vector.setIfInBounds_setIfInBounds]

theorem writeSide_setWriteSide_same (blk : Block) (k : Nat) (v : Word32) (s : State) :
    writeSide blk k (setWriteSide blk k v s) = v &&& slotMask blk k := (setWriteSide_onlySlot blk k v s).1

theorem setWriteSide_congr {v w : Word32} (h : v &&& slotMask blk k = w &&& slotMask blk k) (s : State) :
    setWriteSide blk k v s = setWriteSide blk k w s := by
  cases blk <;> simp only [setWriteSide, h]

theorem setIfInBounds_getD {n : Nat} (regs : Vector Word32 n) (k : Nat) :
    regs.setIfInBounds k (regs.toList.getD k 0) = regs := by
  apply Vector.ext
  intro j hj
  rw [Vector.getElem_setIfInBounds hj]
  split
  · next h =>
    subst h
    simp [hj]
  · rfl

/-- A slot set to what it holds. -/
theorem setWriteSide_self {v : Word32} (h : v &&& slotMask blk k = writeSide blk k s) : setWriteSide blk k v s = s := by
  cases blk <;> simp only [setWriteSide, h, writeSide, setIfInBounds_getD]

theorem getLsbD_byteOfReg (w : Word32) (i j : Nat) :
    (byteOfReg w i).getLsbD j = (decide (j < 8) && w.getLsbD (8 * (3 - i) + j)) := by
  rw [byteOfReg, BitVec.getLsbD_extractLsb']

/-- Byte i of w merged into a register: the eight bits of that byte are those of w. -/
theorem getLsbD_setByteOfReg (v w : Word32) (i : Nat) {j : Nat} (hj : j < 32) :
    (setByteOfReg v i (byteOfReg w i)).getLsbD j = if j / 8 = 3 - i then w.getLsbD j else v.getLsbD j := by
  have hones (n : Nat) : (0xFF#32).getLsbD n = decide (n < 8) := by
    rw [show 0xFF#32 = BitVec.ofNat 32 (2 ^ 8 - 1) from rfl, BitVec.getLsbD_ofNat, Nat.testBit_two_pow_sub_one]
    by_cases hn : n < 8
    · simp [hn, show n < 32 by omega]
    · simp [hn]
  simp only [setByteOfReg, BitVec.getLsbD_or, BitVec.getLsbD_and, BitVec.getLsbD_not, BitVec.getLsbD_shiftLeft,
    BitVec.getLsbD_setWidth, getLsbD_byteOfReg, hones, hj, decide_true, Bool.true_and]
  by_cases hlow : j < 8 * (3 - i)
  · rw [if_neg (by omega)]
    simp [hlow]
  · by_cases hbyte : j - 8 * (3 - i) < 8
    · rw [if_pos (by omega), show 8 * (3 - i) + (j - 8 * (3 - i)) = j by omega]
      simp [hlow, hbyte, show j - 8 * (3 - i) < 32 by omega]
    · rw [if_neg (by omega)]
      simp [hlow, hbyte]

/-- The four bytes of a word, first byte first (spec/20_memory.md R103). -/
def regBytes (w : Word32) : List Byte := [byteOfReg w 0, byteOfReg w 1, byteOfReg w 2, byteOfReg w 3]

theorem add_one_ofNat (p : PAddr) (i : Nat) : p + BitVec.ofNat 32 i + 1 = p + BitVec.ofNat 32 (i + 1) := by
  rw [BitVec.add_assoc, BitVec.ofNat_add]
  rfl

/-- Storing the four bytes of a word sets the slot to that word, under its mask (spec/61_platform_devices.md R531). -/
theorem SlotAt.storeBytes (h : SlotAt blk k p) (w : Word32) (s : State) :
    storeBytes (regBytes w) p s = .ok (setWriteSide blk k w s) := by
  have hp : p = p + BitVec.ofNat 32 0 := (BitVec.add_zero p).symm
  rw [hp]
  simp only [regBytes, Machine.storeBytes, add_one_ofNat, Nat.zero_add, Nat.reduceAdd,
    h.writeByte (show 0 < 4 by decide), h.writeByte (show 1 < 4 by decide),
    h.writeByte (show 2 < 4 by decide), h.writeByte (show 3 < 4 by decide),
    res_ok_bind, writeSide_setWriteSide_same, setWriteSide_setWriteSide]
  congr 1
  apply setWriteSide_congr
  apply BitVec.eq_of_getLsbD_eq
  intro j hj
  simp only [BitVec.getLsbD_and, getLsbD_setByteOfReg _ _ _ hj]
  rcases (show j / 8 = 0 ∨ j / 8 = 1 ∨ j / 8 = 2 ∨ j / 8 = 3 by omega) with hbyte | hbyte | hbyte | hbyte <;>
    simp [hbyte]

theorem bytesOf_word (v : Word) : bytesOf 4 v = regBytes (v.setWidth 32) := by
  have hbyte {i : Nat} (hi : i < 4) : byteOfReg (v.setWidth 32) i = v.extractLsb' (8 * (3 - i)) 8 :=
    BitVec.extractLsb'_setWidth_of_le (by omega)
  rw [regBytes, hbyte (by decide), hbyte (by decide), hbyte (by decide), hbyte (by decide)]
  rfl

/-! ### A word loaded -/

/-- x is v but for the bits of m. -/
def AgreesOutside (m x v : Word32) : Prop := ∀ j < 32, m.getLsbD j = false → x.getLsbD j = v.getLsbD j

theorem AgreesOutside.eq {x v : Word32} (h : AgreesOutside 0 x v) : x = v :=
  BitVec.eq_of_getLsbD_eq fun j hj => h j hj BitVec.getLsbD_zero

theorem AgreesOutside.masked {m x : Word32} (h : AgreesOutside m x 0) : x &&& ~~~m = 0 := by
  apply BitVec.eq_of_getLsbD_eq
  intro j hj
  rw [BitVec.getLsbD_and, BitVec.getLsbD_not, decide_eq_true hj, Bool.true_and]
  cases hm : m.getLsbD j
  · rw [h j hj hm]
    simp
  · simp

/-- One byte of a slot: the bits that are not free are those of the read side, and no free bit means no draw. -/
theorem SlotAt.readByte (h : SlotAt blk k p) (hi : i < 4) (s : State) : ∃ b u,
    readByte (p + BitVec.ofNat 32 i) s = .ok (b, u) ∧ SameButDraws s u ∧ (drawMask blk k = 0 → u = s) ∧
      ∀ j < 8, (drawMask blk k).getLsbD (8 * (3 - i) + j) = false →
        b.getLsbD j = (readSide blk k s).getLsbD (8 * (3 - i) + j) := by
  have hk : (4 * k + i) / 4 = k := by omega
  have hi' : (4 * k + i) % 4 = i := by omega
  have hread : Machine.readByte (p + BitVec.ofNat 32 i) s = .ok (readRegByte blk (4 * k + i) s) := by
    rw [Machine.readByte, h.resolve_byte hi]
    cases blk <;> rfl
  rw [hread, readRegByte, hk, hi']
  split
  · refine ⟨_, _, rfl, rfl, fun _ => rfl, fun j hj _ => ?_⟩
    rw [getLsbD_byteOfReg, decide_eq_true hj, Bool.true_and]
  · next hopen =>
    refine ⟨_, _, rfl, rfl, fun hmask => absurd (by rw [hmask, byteOfReg]; exact BitVec.extractLsb'_zero) hopen,
      fun j hj hm => ?_⟩
    rw [BitVec.getLsbD_or, BitVec.getLsbD_and, getLsbD_byteOfReg, getLsbD_byteOfReg, hm]
    simp [hj]

theorem readSide_sameButDraws {s u : State} (h : SameButDraws s u) (blk : Block) (k : Nat) :
    readSide blk k u = readSide blk k s := by
  rw [h.eq]
  rfl

/-- A word of a slot: the bits that are not free are those of the read side. -/
theorem SlotAt.readBytes (h : SlotAt blk k p) (s : State) : ∃ bytes u,
    readBytes 4 p s = .ok (bytes, u) ∧ SameButDraws s u ∧ (drawMask blk k = 0 → u = s) ∧
      AgreesOutside (drawMask blk k) (BitVec.ofNat 32 (numberOf bytes)) (readSide blk k s) := by
  obtain ⟨b0, u0, hread0, hsame0, hmask0, hbits0⟩ := h.readByte (show 0 < 4 by decide) s
  obtain ⟨b1, u1, hread1, hsame1, hmask1, hbits1⟩ := h.readByte (show 1 < 4 by decide) u0
  obtain ⟨b2, u2, hread2, hsame2, hmask2, hbits2⟩ := h.readByte (show 2 < 4 by decide) u1
  obtain ⟨b3, u3, hread3, hsame3, hmask3, hbits3⟩ := h.readByte (show 3 < 4 by decide) u2
  have hu1 := hsame0.trans hsame1
  have hu2 := hu1.trans hsame2
  rw [readSide_sameButDraws hsame0] at hbits1
  rw [readSide_sameButDraws hu1] at hbits2
  rw [readSide_sameButDraws hu2] at hbits3
  refine ⟨[b0, b1, b2, b3], u3, ?_, hu2.trans hsame3, fun hm => ?_, fun j hj hm => ?_⟩
  · have hp : p = p + BitVec.ofNat 32 0 := (BitVec.add_zero p).symm
    rw [hp]
    simp only [Machine.readBytes, add_one_ofNat, Nat.zero_add, Nat.reduceAdd, hread0, hread1, hread2, hread3,
      res_ok_bind, res_pure]
  · rw [hmask3 hm, hmask2 hm, hmask1 hm, hmask0 hm]
  · rw [ofNat_numberOf_four]
    simp only [BitVec.getLsbD_append]
    split
    · next h3 =>
      have hbit := hbits3 j h3
      rw [show 8 * (3 - 3) + j = j by omega] at hbit
      exact hbit hm
    · split
      · next h2 =>
        have hbit := hbits2 (j - 8) h2
        rw [show 8 * (3 - 2) + (j - 8) = j by omega] at hbit
        exact hbit hm
      · split
        · next h1 =>
          have hbit := hbits1 (j - 8 - 8) h1
          rw [show 8 * (3 - 1) + (j - 8 - 8) = j by omega] at hbit
          exact hbit hm
        · have hbit := hbits0 (j - 8 - 8 - 8) (by omega)
          rw [show 8 * (3 - 0) + (j - 8 - 8 - 8) = j by omega] at hbit
          exact hbit hm

/-! ### SW and LW of a slot -/

section
variable {base rt : Reg} {offset : BitVec 16}

/-- A store of a word to a slot: the slot takes it, then come the side effects of its address
(spec/61_platform_devices.md R531, R533). -/
theorem exec_sw_slot (hslot : SlotAt blk k p)
    (hp : dataAddress true 4 (effectiveAddress (readGpr s base) offset) s = .ok p) :
    exec (.sw base rt offset) s =
      complete s (fireEffects p.toNat 4 (setWriteSide blk k ((readGpr s rt).setWidth 32) s)) := by
  have hstore : storeAligned 4 base rt offset s =
      fireEffects p.toNat 4 (setWriteSide blk k ((readGpr s rt).setWidth 32) s) := by
    rw [storeAligned, storeValue, hp, res_ok_bind, BitVec.sub_zero, busWrite, length_bytesOf, bytesOf_word,
      hslot.storeBytes, res_ok_bind]
  exact congrArg (complete s) hstore

/-- A store to a slot without a side effect. -/
theorem exec_sw_quiet (hslot : SlotAt blk k p) (hquiet : touchedEffects p.toNat 4 = [])
    (hp : dataAddress true 4 (effectiveAddress (readGpr s base) offset) s = .ok p) :
    exec (.sw base rt offset) s = .next (retire (setWriteSide blk k ((readGpr s rt).setWidth 32) s)) := by
  rw [exec_sw_slot hslot hp, fireEffects, hquiet]
  rfl

/-- A load of a word from a slot. -/
theorem exec_lw_slot (hslot : SlotAt blk k p)
    (hp : dataAddress false 4 (effectiveAddress (readGpr s base) offset) s = .ok p) : ∃ (x : Word32) (u : State),
    exec (.lw base rt offset) s = .next (retire (writeGpr (takeSemaphore p.toNat 4 u) rt (x.signExtend 64))) ∧
      SameButDraws s u ∧ (drawMask blk k = 0 → u = s) ∧ AgreesOutside (drawMask blk k) x (readSide blk k s) := by
  obtain ⟨bytes, u, hread, hsame, hdraw, hbits⟩ := hslot.readBytes s
  refine ⟨BitVec.ofNat 32 (numberOf bytes), u, ?_, hsame, hdraw, hbits⟩
  have hload : loadAligned 4 sextLow base rt offset s =
      .ok (writeGpr (takeSemaphore p.toNat 4 u) rt ((BitVec.ofNat 32 (numberOf bytes)).signExtend 64)) := by
    simp only [loadAligned, loadBytes, hp, res_ok_bind, BitVec.sub_zero, busRead, hread, res_pure, wordOf,
      sextLow_ofNat]
  exact congrArg (complete s) hload

end

end

end Sys2Proof.Machine
end

section
/-! Proofs of the family 61_platform_devices: the register blocks of VI, PI, SI and SP (spec/61_platform_devices.md
R531, R541, R545, R550, R555, R561, R567; spec/20_memory.md R103). -/

namespace Sys2Proof.Machine

/-! ### Plain slots -/

/-- The slots whose read side is not their write side, SP_SEMAPHORE among them (spec/61_platform_devices.md R531). -/
def ownReadSides : List (Block × Nat) := [(.pi, 4), (.si, 6), (.sp, 4), (.sp, 7)]

/-- A slot that a load reads back: no free bit, and no read side of its own. -/
abbrev PlainSlot (blk : Block) (k : Nat) : Prop :=
  k < blockSlots blk ∧ drawMask blk k = 0 ∧ (blk, k) ∉ ownReadSides

/-- A write of the word at slot k of a block sets off no side effect (spec/61_platform_devices.md R533). -/
abbrev QuietSlot (blk : Block) (k : Nat) : Prop :=
  k < blockSlots blk ∧ touchedEffects (blockFirst blk + 4 * k) 4 = []

theorem forall_of_mem {α : Type} {P : α → Prop} {l : List α} {a : α} (ha : a ∈ l) (h : ∀ b ∈ l, P b) : P a := h a ha

theorem slotAt_ofNat {blk : Block} {k : Nat} (hk : k < blockSlots blk) :
    SlotAt blk k (BitVec.ofNat 32 (blockFirst blk + 4 * k)) where
  address := by
    rw [BitVec.toNat_ofNat]
    cases blk <;> simp only [blockFirst, blockSlots] at hk ⊢ <;> omega
  inBlock := hk

section
variable {blk : Block} {k : Nat} {p : PAddr} {s t : State} {base rt rd : Reg} {offset : BitVec 16}

theorem SlotAt.quiet (h : SlotAt blk k p) (hquiet : QuietSlot blk k) : touchedEffects p.toNat 4 = [] := by
  rw [h.address]
  exact hquiet.2

theorem SlotAt.takeSemaphore (h : SlotAt blk k p) (hne : (blk, k) ≠ (.sp, 7)) (u : State) :
    takeSemaphore p.toNat 4 u = u := by
  have htouches : touches p.toNat 4 0x0404001C 4 = false := by
    obtain ⟨haddress, hk⟩ := h
    rw [touches, ← Bool.decide_and, decide_eq_false_iff_not, haddress]
    cases blk <;> simp only [blockFirst, blockSlots, ne_eq, Prod.mk.injEq, true_and] at hk hne ⊢ <;> omega
  rw [Machine.takeSemaphore, htouches]
  rfl

theorem readSide_eq_writeSide (h : (blk, k) ∉ ownReadSides) (s : State) : readSide blk k s = writeSide blk k s := by
  unfold readSide
  split
  case h_5 => rfl
  all_goals exact absurd (by decide) h

/-- A load of a plain slot. -/
theorem exec_lw_plain (hslot : SlotAt blk k p) (hplain : PlainSlot blk k)
    (hp : dataAddress false 4 (effectiveAddress (readGpr s base) offset) s = .ok p) :
    exec (.lw base rd offset) s = .next (retire (writeGpr s rd ((writeSide blk k s).signExtend 64))) := by
  obtain ⟨-, hdraw, hown⟩ := hplain
  have hne : (blk, k) ≠ (.sp, 7) := fun h => hown (h ▸ by decide)
  obtain ⟨x, u, hexec, -, hu, hbits⟩ := exec_lw_slot (rt := rd) hslot hp
  rw [hdraw, readSide_eq_writeSide hown] at hbits
  rw [hexec, hslot.takeSemaphore hne, hu hdraw, hbits.eq]

theorem onlyGpr_lw_plain (hslot : SlotAt blk k p) (hplain : PlainSlot blk k)
    (hp : dataAddress false 4 (effectiveAddress (readGpr s base) offset) s = .ok p) :
    Answers (.lw base rd offset) s (OnlyGpr rd ((writeSide blk k s).signExtend 64) s) :=
  ⟨_, exec_lw_plain hslot hplain hp, onlyGpr_writeGpr s rd _⟩

/-- A load of a slot with free bits spends free values and changes the register. -/
theorem onlyGpr_lw_free (hslot : SlotAt blk k p) (hne : (blk, k) ≠ (.sp, 7))
    (hp : dataAddress false 4 (effectiveAddress (readGpr s base) offset) s = .ok p) :
    Answers (.lw base rd offset) s (fun u => ∃ x : Word32, AgreesOutside (drawMask blk k) x (readSide blk k s) ∧
      OnlyGpr rd (x.signExtend 64) { s with draws := u.draws } u) := by
  obtain ⟨x, u, hexec, hsame, -, hbits⟩ := exec_lw_slot (rt := rd) hslot hp
  rw [hslot.takeSemaphore hne] at hexec
  refine ⟨_, hexec, x, hbits, ?_⟩
  rw [retire_draws, writeGpr_draws, ← hsame.eq]
  exact onlyGpr_writeGpr u rd _

/-! ### Stores to a slot -/

theorem writeSide_retire (blk : Block) (k : Nat) (s : State) : writeSide blk k (retire s) = writeSide blk k s := by
  unfold retire
  split <;> rfl

theorem memByte_setWriteSide (a : Nat) (blk : Block) (k : Nat) (v : Word32) (s : State) :
    memByte a (setWriteSide blk k v s) = memByte a s := by
  rw [memByte, setWriteSide_mem, setWriteSide_epoch]
  rfl

theorem memByte_retire (a : Nat) (s : State) : memByte a (retire s) = memByte a s := by
  unfold retire
  split <;> rfl

theorem onlySlot_retire (blk : Block) (k : Nat) (v : Word32) (s : State) :
    OnlySlot blk k (v &&& slotMask blk k) s (retire (setWriteSide blk k v s)) := by
  obtain ⟨hvalue, hothers⟩ := setWriteSide_onlySlot blk k v s
  exact {
    value := (writeSide_retire blk k _).trans hvalue
    others := fun b j h => (writeSide_retire b j _).trans (hothers b j h)
    memory := fun a => (memByte_retire a _).trans (memByte_setWriteSide a blk k v s)
    pc := by rw [retire_nextPc, nextPc, nextPc, setWriteSide_pc, setWriteSide_delay]
    delay := retire_delay _
    rest := by cases blk <;> (unfold retire; split <;> rfl) }

theorem onlySlot_sw (hslot : SlotAt blk k p) (hquiet : QuietSlot blk k)
    (hp : dataAddress true 4 (effectiveAddress (readGpr s base) offset) s = .ok p) : Answers (.sw base rt offset) s
      (OnlySlot blk k ((readGpr s rt).setWidth 32 &&& slotMask blk k) s) :=
  ⟨_, exec_sw_quiet hslot (hslot.quiet hquiet) hp, onlySlot_retire blk k _ s⟩

/-- A slot that stores no bit reads 0 in every state of the invariant. -/
theorem writeSide_masked (hs : Inv s) (hmask : slotMask blk k = 0) : writeSide blk k s = 0 := by
  have hblocks := hs.blocks blk k
  rw [hmask] at hblocks
  exact (BitVec.and_allOnes (x := writeSide blk k s)).symm.trans hblocks

/-- A store to a slot that stores no bit. -/
theorem onlyControl_sw_masked (hs : Inv s) (hslot : SlotAt blk k p) (hquiet : QuietSlot blk k)
    (hmask : slotMask blk k = 0)
    (hp : dataAddress true 4 (effectiveAddress (readGpr s base) offset) s = .ok p) :
    Answers (.sw base rt offset) s (OnlyControl (nextPc s) none s) := by
  have hself : setWriteSide blk k ((readGpr s rt).setWidth 32) s = s := by
    apply setWriteSide_self
    rw [writeSide_masked hs hmask, hmask]
    exact BitVec.and_zero
  refine ⟨_, exec_sw_quiet hslot (hslot.quiet hquiet) hp, ?_⟩
  rw [hself]
  exact onlyControl_retire s

/-! ### A load after a store -/

/-- The checks of an access look at the coprocessor 0 registers and the TLB alone. -/
theorem dataAddress_congr {store : Bool} {n : Nat} {va : Word} (hcp0 : t.cp0 = s.cp0) (htlb : t.tlb = s.tlb) :
    dataAddress store n va t = dataAddress store n va s := by
  simp only [dataAddress, checkByteOrder, currentMode, translate, tlbTranslate, matchingEntries, checkWatch,
    watchMatches, hcp0, htlb]
  rfl

theorem dataAddress_after_store {store : Bool} {n : Nat} (blk : Block) (k : Nat) (v : Word32) (s : State) :
    dataAddress store n (effectiveAddress (readGpr (retire (setWriteSide blk k v s)) base) offset)
      (retire (setWriteSide blk k v s)) = dataAddress store n (effectiveAddress (readGpr s base) offset) s := by
  have hgpr : readGpr (retire (setWriteSide blk k v s)) base = readGpr s base := by
    rw [readGpr_retire, readGpr, readGpr]
    simp only [setWriteSide_gpr]
  rw [hgpr]
  exact dataAddress_congr ((retire_cp0 _).trans (setWriteSide_cp0 blk k v s))
    ((retire_tlb _).trans (setWriteSide_tlb blk k v s))

/-- A plain slot reads back what was stored. -/
theorem sw_then_lw (hslot : SlotAt blk k p) (hplain : PlainSlot blk k) (hquiet : QuietSlot blk k) {m : Word32}
    (hmask : slotMask blk k = m)
    (hstore : dataAddress true 4 (effectiveAddress (readGpr s base) offset) s = .ok p)
    (hload : dataAddress false 4 (effectiveAddress (readGpr s base) offset) s = .ok p) :
    ∃ t u, exec (.sw base rt offset) s = .next t ∧ OnlySlot blk k ((readGpr s rt).setWidth 32 &&& m) s t ∧
      exec (.lw base rd offset) t = .next u ∧ OnlyGpr rd (((readGpr s rt).setWidth 32 &&& m).signExtend 64) t u := by
  subst hmask
  obtain ⟨t, hsw, honly⟩ := onlySlot_sw (rt := rt) hslot hquiet hstore
  have ht := exec_sw_quiet (rt := rt) hslot (hslot.quiet hquiet) hstore
  obtain rfl : t = retire (setWriteSide blk k ((readGpr s rt).setWidth 32) s) :=
    Host.Outcome.next.inj (hsw.symm.trans ht)
  obtain ⟨u, hlw, hgpr⟩ := onlyGpr_lw_plain (rd := rd) hslot hplain
    ((dataAddress_after_store blk k ((readGpr s rt).setWidth 32) s).trans hload)
  rw [honly.value] at hgpr
  exact ⟨_, u, hsw, honly, hlw, hgpr⟩

end

/-- Settles O52: what each slot stores, draws and sets off is a table; a store merges the word into it and a load reads
its read side. -/
theorem registerBlocks : Obligations.RegisterBlocks := by
  unfold Obligations.RegisterBlocks
  intro s base rt rd offset va w slotAt
  refine ⟨?plain, ?held, ?reserved, ?status, ?open_⟩
  case plain =>
    intro row hrow slot hslot hstore hload
    obtain ⟨hfirst, hslots⟩ := forall_of_mem (P := fun row => row.2.1 = blockFirst row.1 ∧ ∀ slot ∈ row.2.2,
      PlainSlot row.1 slot.1 ∧ QuietSlot row.1 slot.1 ∧ slotMask row.1 slot.1 = slot.2) hrow (by decide)
    obtain ⟨hplain, hquiet, hmask⟩ := hslots slot hslot
    rw [hfirst] at hstore hload
    exact sw_then_lw (slotAt_ofNat hplain.1) hplain hquiet hmask hstore hload
  case held =>
    intro row hrow k hk hload
    obtain ⟨hfirst, hslots⟩ := forall_of_mem
      (P := fun row => row.2.1 = blockFirst row.1 ∧ ∀ k ∈ row.2.2, PlainSlot row.1 k) hrow (by decide)
    rw [hfirst] at hload
    exact onlyGpr_lw_plain (slotAt_ofNat (hslots k hk).1) (hslots k hk) hload
  case reserved =>
    intro p hp hs
    obtain ⟨blk, k, hslot, hplain, hquiet, hmask⟩ :
        ∃ blk k, SlotAt blk k p ∧ PlainSlot blk k ∧ QuietSlot blk k ∧ slotMask blk k = 0 := by
      simp only [List.mem_cons, List.not_mem_nil, or_false] at hp
      rcases hp with rfl | rfl | rfl | rfl | rfl
      · exact ⟨.si, 2, slotAt_ofNat (by decide), by decide, by decide, rfl⟩
      · exact ⟨.si, 3, slotAt_ofNat (by decide), by decide, by decide, rfl⟩
      · exact ⟨.si, 5, slotAt_ofNat (by decide), by decide, by decide, rfl⟩
      · exact ⟨.sp, 5, slotAt_ofNat (by decide), by decide, by decide, rfl⟩
      · exact ⟨.sp, 6, slotAt_ofNat (by decide), by decide, by decide, rfl⟩
    refine ⟨onlyControl_sw_masked hs hslot hquiet hmask, fun hload => ?_⟩
    have hread := onlyGpr_lw_plain (rd := rd) hslot hplain hload
    rw [writeSide_masked hs hmask] at hread
    exact hread
  case status =>
    intro row hrow
    obtain ⟨hp, hquiet, hown, hmask⟩ := forall_of_mem
      (P := fun row => row.2.2.1 = BitVec.ofNat 32 (blockFirst row.1 + 4 * row.2.1) ∧ QuietSlot row.1 row.2.1 ∧
        (row.1, row.2.1) ∈ ([(.pi, 4), (.si, 6)] : List (Block × Nat)) ∧ drawMask row.1 row.2.1 = row.2.2.2)
      hrow (by decide)
    have hslot := slotAt_ofNat hquiet.1
    rw [← hp] at hslot
    refine ⟨fun hstore => ?_, fun hload => ?_⟩
    · obtain ⟨t, hsw, honly⟩ := onlySlot_sw (rt := rt) hslot hquiet hstore
      exact ⟨t, hsw, _, honly⟩
    · have hne : (row.1, row.2.1) ≠ (.sp, 7) := forall_of_mem (P := (· ≠ (.sp, 7))) hown (by decide)
      have hread : readSide row.1 row.2.1 s = 0 := by
        simp only [List.mem_cons, List.not_mem_nil, or_false, Prod.mk.injEq] at hown
        rcases hown with ⟨hblk, hk⟩ | ⟨hblk, hk⟩ <;> rw [hblk, hk] <;> rfl
      obtain ⟨u, hlw, x, hbits, honly⟩ := onlyGpr_lw_free (rd := rd) hslot hne hload
      rw [hread, hmask] at hbits
      exact ⟨u, hlw, x, hbits.masked, honly⟩
  case open_ =>
    intro p hp
    obtain ⟨blk, k, hslot, hquiet, hne, hmask⟩ :
        ∃ blk k, SlotAt blk k p ∧ QuietSlot blk k ∧ (blk, k) ≠ (.sp, 7) ∧ slotMask blk k = 0 := by
      simp only [List.mem_cons, List.not_mem_nil, or_false] at hp
      rcases hp with rfl | rfl
      · exact ⟨.vi, 4, slotAt_ofNat (by decide), by decide, by decide, rfl⟩
      · exact ⟨.spPc, 1, slotAt_ofNat (by decide), by decide, by decide, rfl⟩
    refine ⟨fun hs => onlyControl_sw_masked hs hslot hquiet hmask, fun hload => ?_⟩
    obtain ⟨u, hlw, x, -, honly⟩ := onlyGpr_lw_free (rd := rd) hslot hne hload
    exact ⟨u, hlw, x, honly⟩

end Sys2Proof.Machine
end

section
/-! Proofs of the family 61_platform_devices: what a copy between memories does, whole and cut short
(spec/61_platform_devices.md R533, R540, R542, R543). -/

namespace Sys2Proof.Machine

/-! ### Bytes that a copy can read and write -/

/-- A byte of populated RDRAM, of the SP memories or of PIF RAM: it reads and writes as memory (spec/20_memory.md R150,
R151). -/
def PlainByte (a : Nat) (s : State) : Prop :=
  (a < s.rdramSize ∧ a < 0x03F00000) ∨ (0x04000000 ≤ a ∧ a < 0x04002000) ∨ (0x1FC007C0 ≤ a ∧ a < 0x1FC00800)

section
variable {a : Nat} {b : Byte} {s u t : State}

theorem toNat_address (h : a < 0x20000000) : (BitVec.ofNat 32 a).toNat = a := by
  rw [BitVec.toNat_ofNat]
  omega

theorem PlainByte.small (h : PlainByte a s) : a < 0x20000000 := by
  unfold PlainByte at h
  omega

theorem PlainByte.plainWrite (h : PlainByte a s) : plainWrite (BitVec.ofNat 32 a) s = true := by
  have ha := toNat_address h.small
  rcases h with ⟨hsize, h⟩ | ⟨h1, h2⟩ | ⟨h1, h2⟩
  · simp only [Machine.plainWrite, resolve_rdram (p := BitVec.ofNat 32 a) (by omega), ha, hsize, decide_true]
  · by_cases hd : a < 0x04001000
    · simp only [Machine.plainWrite, resolve_spDmem (p := BitVec.ofNat 32 a) (by omega) (by omega)]
    · simp only [Machine.plainWrite, resolve_spImem (p := BitVec.ofNat 32 a) (by omega) (by omega)]
  · have hrow : (⟨.pifRam, 0x1FC007C0, 0x1FC007FF⟩ : SlotRow) ∈ deviceTable := by decide
    simp only [Machine.plainWrite,
      resolve_of_row hrow (p := BitVec.ofNat 32 a) (by dsimp only; omega) (by dsimp only; omega)]

theorem PlainByte.writeByte (h : PlainByte a s) (b : Byte) :
    writeByte (BitVec.ofNat 32 a) b s = .ok (setMemByte a b s) := by
  rw [writeByte_plain _ b s h.plainWrite, toNat_address h.small]

theorem PlainByte.readByte (h : PlainByte a s) : readByte (BitVec.ofNat 32 a) s = .ok (memByte a s, s) := by
  rw [readByte_plain _ s (plainWrite_plainRead _ s h.plainWrite), toNat_address h.small]

theorem isImage_of (hfirst : 0x10000000 ≤ a) (hlast : a < 0x1FC007C0) : isImage a = true := by
  simp only [isImage, hfirst, hlast, decide_true, Bool.and_self]

theorem isImage_small (h : isImage a = true) : a < 0x20000000 := by
  simp only [isImage, Bool.and_eq_true, decide_eq_true_eq] at h
  omega

/-- A byte of an image lies in CART_ROM or in PIF_ROM (spec/20_memory.md R150). -/
theorem resolve_image (h : isImage a = true) :
    ∃ slot off, resolve (BitVec.ofNat 32 a) = some (slot, off) ∧ (slot = .cartRom ∨ slot = .pifRom) := by
  have ha := toNat_address (isImage_small h)
  simp only [isImage, Bool.and_eq_true, decide_eq_true_eq] at h
  by_cases hcart : a < 0x1FC00000
  · have hrow : (⟨.cartRom, 0x10000000, 0x1FBFFFFF⟩ : SlotRow) ∈ deviceTable := by decide
    exact ⟨.cartRom, _, resolve_of_row hrow (by dsimp only; omega) (by dsimp only; omega), .inl rfl⟩
  · have hrow : (⟨.pifRom, 0x1FC00000, 0x1FC007BF⟩ : SlotRow) ∈ deviceTable := by decide
    exact ⟨.pifRom, _, resolve_of_row hrow (by dsimp only; omega) (by dsimp only; omega), .inr rfl⟩

theorem writeByte_image (h : isImage a = true) (b : Byte) : writeByte (BitVec.ofNat 32 a) b s = .ok s := by
  obtain ⟨slot, off, hres, hslot⟩ := resolve_image h
  have hignoring : slot ∈ ignoringSlots := by rcases hslot with rfl | rfl <;> decide
  exact writeByte_ignored hignoring hres b

/-- The bytes that a transfer can read without a fault: memory, and the images (spec/61_platform_devices.md R540). -/
def SourceByte (a : Nat) (s : State) : Prop := PlainByte a s ∨ isImage a = true

/-- A byte of an image that memory lists, or no byte of an image: it does not read as a free value (log 7). -/
def Listed (a : Nat) (s : State) : Prop := isImage a = true → Memory.lookup a s.mem ≠ none

theorem PlainByte.listed (h : PlainByte a s) : Listed a s := fun himage => by
  simp only [isImage, Bool.and_eq_true, decide_eq_true_eq] at himage
  unfold PlainByte at h
  omega

theorem SourceByte.small (h : SourceByte a s) : a < 0x20000000 := h.elim PlainByte.small isImage_small

theorem SourceByte.readByte (h : SourceByte a s) : ∃ b u, readByte (BitVec.ofNat 32 a) s = .ok (b, u) ∧
    SameButDraws s u ∧ (Listed a s → b = memByte a s) := by
  rcases h with h | h
  · exact ⟨_, s, h.readByte, rfl, fun _ => rfl⟩
  · obtain ⟨slot, off, hres, hslot⟩ := resolve_image h
    have ha := toNat_address (isImage_small h)
    rw [Machine.readByte, hres]
    rcases hslot with rfl | rfl
    · dsimp only
      cases hlookup : Memory.lookup (BitVec.ofNat 32 a).toNat s.mem with
      | some b =>
        refine ⟨b, s, rfl, rfl, fun _ => ?_⟩
        rw [ha] at hlookup
        simp only [memByte, hlookup]
      | none =>
        rw [ha] at hlookup
        exact ⟨_, _, rfl, rfl, fun hlisted => absurd hlookup (hlisted h)⟩
    · exact ⟨_, s, rfl, rfl, fun _ => by rw [ha]⟩

/-- A byte that a transfer reads is none of SP_SEMAPHORE. -/
theorem SourceByte.busRead (h : SourceByte a s) (hread : Machine.readByte (BitVec.ofNat 32 a) s = .ok (b, u)) :
    busRead (BitVec.ofNat 32 a) 1 s = .ok ([b], u) := by
  have htouches : touches (BitVec.ofNat 32 a).toNat 1 0x0404001C 4 = false := by
    rw [toNat_address h.small, touches, ← Bool.decide_and, decide_eq_false_iff_not]
    rcases h with h | h
    · unfold PlainByte at h
      omega
    · simp only [isImage, Bool.and_eq_true, decide_eq_true_eq] at h
      omega
  simp only [Machine.busRead, readBytes, hread, res_ok_bind, res_pure, takeSemaphore, htouches]
  rfl

/-! ### A copy, byte by byte -/

section
variable {src dst n c m : Nat}

theorem storeBytes_single (p : PAddr) (b : Byte) (s : State) : storeBytes [b] p s = writeByte p b s := by
  simp only [storeBytes]
  cases writeByte p b s <;> rfl

theorem ofNat_add_one (a : Nat) : BitVec.ofNat 32 a + 1 = BitVec.ofNat 32 (a + 1) := by
  rw [BitVec.ofNat_add]
  rfl

theorem copyBytes_step (hsrc : SourceByte src s) (hread : readByte (BitVec.ofNat 32 src) s = .ok (b, u))
    (hwrite : writeByte (BitVec.ofNat 32 dst) b u = .ok t) (m c : Nat) :
    copyBytes (m + 1) c (BitVec.ofNat 32 src) (BitVec.ofNat 32 dst) s =
      copyBytes m (c + 1) (BitVec.ofNat 32 (src + 1)) (BitVec.ofNat 32 (dst + 1)) t := by
  simp only [copyBytes, hsrc.busRead hread, storeBytes_single, hwrite, withCopied, res_ok_bind, ofNat_add_one]

/-- Only the n bytes of memory from dst and the position in the free values differ. -/
structure Within (dst n : Nat) (s t : State) : Prop where
  others : ∀ a, a < dst ∨ dst + n ≤ a → Memory.lookup a t.mem = Memory.lookup a s.mem
  rest : { t with mem := s.mem, draws := s.draws } = s

theorem memByte_congr (hlookup : Memory.lookup a t.mem = Memory.lookup a s.mem) (hepoch : t.epoch = s.epoch) :
    memByte a t = memByte a s := by
  simp only [memByte, hlookup, hepoch]

theorem Within.epoch (h : Within dst n s t) : t.epoch = s.epoch := (congrArg State.epoch h.rest :)

theorem Within.rdramSize (h : Within dst n s t) : t.rdramSize = s.rdramSize := (congrArg State.rdramSize h.rest :)

theorem Within.memByte (h : Within dst n s t) (ha : a < dst ∨ dst + n ≤ a) : memByte a t = memByte a s :=
  memByte_congr (h.others a ha) h.epoch

theorem Within.refl (dst n : Nat) (s : State) : Within dst n s s := ⟨fun _ _ => rfl, rfl⟩

theorem Within.trans (hst : Within dst n s t) (htu : Within dst n t u) : Within dst n s u where
  others a ha := (htu.others a ha).trans (hst.others a ha)
  rest := (congrArg (fun x : State => { x with mem := s.mem, draws := s.draws }) htu.rest).trans hst.rest

theorem Within.mono {dst' n' : Nat} (h : Within dst n s t) (hfirst : dst' ≤ dst) (hlast : dst + n ≤ dst' + n') :
    Within dst' n' s t := ⟨fun a ha => h.others a (by omega), h.rest⟩

theorem SameButDraws.within (h : SameButDraws s u) (dst n : Nat) : Within dst n s u where
  others a _ := by rw [h.eq]
  rest := by
    rw [h.eq]

theorem within_setMemByte (h : dst ≤ a ∧ a < dst + n) (b : Byte) (s : State) : Within dst n s (setMemByte a b s) where
  others c hc := lookup_write_other a c b s.mem (by omega)
  rest := rfl

theorem within_setMemBytes (bytes : List Byte) (hfirst : dst ≤ a) (hlast : a + bytes.length ≤ dst + n) (s : State) :
    Within dst n s (setMemBytes a bytes s) := by
  induction bytes generalizing a s with
  | nil => exact .refl dst n s
  | cons b rest ih =>
    rw [List.length_cons] at hlast
    exact (within_setMemByte ⟨hfirst, by omega⟩ b s).trans (ih (by omega) (by omega) _)

/-- The n bytes from src stand at dst, but for those of an image that read as free values, and nothing else changed
(spec/61_platform_devices.md R540). -/
structure Copied (src dst n : Nat) (s t : State) : Prop where
  moved : ∀ k < n, Listed (src + k) s → memByte (dst + k) t = memByte (src + k) s
  within : Within dst n s t

theorem PlainByte.congr (h : PlainByte a s) (hsize : t.rdramSize = s.rdramSize) : PlainByte a t := by
  rwa [PlainByte, hsize]

theorem SourceByte.congr (h : SourceByte a s) (hsize : t.rdramSize = s.rdramSize) : SourceByte a t :=
  h.imp_left fun h => h.congr hsize

/-- The source and the destination of a copy have no byte in common. -/
def Apart (src dst n : Nat) : Prop := src + n ≤ dst ∨ dst + n ≤ src

/-- A copy of n bytes and more: the n bytes stand at the destination, and it goes on from there. -/
theorem copyBytes_copies (hsrc : ∀ k < n, SourceByte (src + k) s) (hdst : ∀ k < n, PlainByte (dst + k) s)
    (hapart : Apart src dst n) : ∃ t, Copied src dst n s t ∧ ∀ m c,
      copyBytes (n + m) c (BitVec.ofNat 32 src) (BitVec.ofNat 32 dst) s =
        copyBytes m (c + n) (BitVec.ofNat 32 (src + n)) (BitVec.ofNat 32 (dst + n)) t := by
  induction n generalizing src dst s with
  | zero => exact ⟨s, ⟨fun k hk => absurd hk (Nat.not_lt_zero k), .refl dst 0 s⟩, fun m c => by simp⟩
  | succ n ih =>
    have hsrc0 : SourceByte src s := hsrc 0 (Nat.succ_pos n)
    obtain ⟨b, u, hread, hsame, hbyte⟩ := hsrc0.readByte
    have hu : Within dst 1 s u := hsame.within dst 1
    have hdst0 : PlainByte dst u := (hdst 0 (Nat.succ_pos n)).congr hu.rdramSize
    have hv : Within dst 1 s (setMemByte dst b u) := hu.trans (within_setMemByte ⟨le_rfl, by omega⟩ b u)
    have hnext (a k : Nat) : a + 1 + k = a + (k + 1) := by omega
    unfold Apart at hapart
    obtain ⟨t, hcopied, hrest⟩ := ih (src := src + 1) (dst := dst + 1) (s := setMemByte dst b u)
      (fun k hk => hnext src k ▸ (hsrc (k + 1) (by omega)).congr hv.rdramSize)
      (fun k hk => hnext dst k ▸ (hdst (k + 1) (by omega)).congr hv.rdramSize) (by unfold Apart; omega)
    refine ⟨t, ⟨fun k hk hlisted => ?_, ?_⟩, fun m c => ?_⟩
    · cases k with
      | zero =>
        rw [hcopied.within.memByte (.inl (by omega)), memByte_setMemByte, if_pos (Nat.add_zero dst)]
        exact hbyte hlisted
      | succ k =>
        have hsame_byte : Memory.lookup (src + (k + 1)) (setMemByte dst b u).mem =
            Memory.lookup (src + (k + 1)) s.mem := hv.others _ (by omega)
        have hmoved := hcopied.moved k (by omega)
        rw [hnext, hnext, Listed, hsame_byte] at hmoved
        exact (hmoved hlisted).trans (hv.memByte (by omega))
    · exact (hv.mono le_rfl (by omega)).trans (hcopied.within.mono (by omega) (by omega))
    · rw [Nat.add_right_comm, copyBytes_step hsrc0 hread (hdst0.writeByte b), hrest, hnext, hnext, hnext,
        Nat.add_comm n 1, Nat.add_comm 1 n]

/-- A copy of n bytes and more into an image, which stores nothing (spec/20_memory.md R152). -/
theorem copyBytes_ignored (hsrc : ∀ k < n, PlainByte (src + k) s) (hdst : ∀ k < n, isImage (dst + k) = true)
    (m c : Nat) : copyBytes (n + m) c (BitVec.ofNat 32 src) (BitVec.ofNat 32 dst) s =
      copyBytes m (c + n) (BitVec.ofNat 32 (src + n)) (BitVec.ofNat 32 (dst + n)) s := by
  induction n generalizing src dst c with
  | zero => simp
  | succ n ih =>
    have hsrc0 : PlainByte src s := hsrc 0 (Nat.succ_pos n)
    have hdst0 : isImage dst = true := hdst 0 (Nat.succ_pos n)
    have hnext (a k : Nat) : a + 1 + k = a + (k + 1) := by omega
    rw [Nat.add_right_comm, copyBytes_step (.inl hsrc0) hsrc0.readByte (writeByte_image hdst0 _),
      ih (fun k hk => hnext src k ▸ hsrc (k + 1) (by omega)) (fun k hk => hnext dst k ▸ hdst (k + 1) (by omega)),
      hnext, hnext, hnext]

/-! ### A copy that stops (spec/61_platform_devices.md R543) -/

theorem copyBytes_read_fault (h : Unclaimed (BitVec.ofNat 32 src) s) (m c : Nat) (q : PAddr) :
    copyBytes (m + 1) c (BitVec.ofNat 32 src) q s =
      .error (.fault (.dmaBusFault (BitVec.ofNat 32 src) c s)) := by
  rw [copyBytes, busRead_unclaimed (by decide) h]
  rfl

theorem copyBytes_write_fault (hsrc : SourceByte src s) (hread : readByte (BitVec.ofNat 32 src) s = .ok (b, u))
    (h : Unclaimed (BitVec.ofNat 32 dst) u) (m c : Nat) :
    copyBytes (m + 1) c (BitVec.ofNat 32 src) (BitVec.ofNat 32 dst) s =
      .error (.fault (.dmaBusFault (BitVec.ofNat 32 dst) c u)) := by
  simp only [copyBytes, hsrc.busRead hread, storeBytes_single, h.write, withCopied, res_ok_bind]
  rfl

theorem unclaimed_ram (hsize : s.rdramSize ≤ a) (ha : a < 0x03F00000) : Unclaimed (BitVec.ofNat 32 a) s := by
  have haddress := toNat_address (a := a) (by omega)
  exact unclaimed_of_unpopulated (by omega) (by omega)

/-! ### Copies between RDRAM and the rest -/

theorem copy_complete (hsrc : ∀ k < n, SourceByte (src + k) s) (hdst : ∀ k < n, PlainByte (dst + k) s)
    (hapart : Apart src dst n) :
    ∃ t, copyBytes n 0 (BitVec.ofNat 32 src) (BitVec.ofNat 32 dst) s = .ok t ∧ Copied src dst n s t := by
  obtain ⟨t, hcopied, hrest⟩ := copyBytes_copies hsrc hdst hapart
  exact ⟨t, hrest 0 0, hcopied⟩

/-- A copy out of RDRAM that passes its populated end. -/
theorem copy_from_ram_stops (hpos : 0 < n) (hend : src + n ≤ 0x03F00000) (hsize : s.rdramSize < src + n)
    (hdst : ∀ k < s.rdramSize - src, PlainByte (dst + k) s) (hapart : Apart src dst (s.rdramSize - src)) :
    ∃ t, copyBytes n 0 (BitVec.ofNat 32 src) (BitVec.ofNat 32 dst) s =
        .error (.fault (.dmaBusFault (BitVec.ofNat 32 (src + (s.rdramSize - src))) (s.rdramSize - src) t)) ∧
      Copied src dst (s.rdramSize - src) s t := by
  obtain ⟨m, hm⟩ : ∃ m, n = s.rdramSize - src + (m + 1) := ⟨n - (s.rdramSize - src) - 1, by omega⟩
  obtain ⟨t, hcopied, hrest⟩ := copyBytes_copies (fun k hk => .inl (.inl (by omega))) hdst hapart
  have hunclaimed : Unclaimed (BitVec.ofNat 32 (src + (s.rdramSize - src))) t :=
    unclaimed_ram (hcopied.within.rdramSize ▸ by omega) (by omega)
  refine ⟨t, ?_, hcopied⟩
  rw [hm, hrest, copyBytes_read_fault hunclaimed, Nat.zero_add]

/-- A copy into RDRAM that passes its populated end. -/
theorem copy_to_ram_stops (hpos : 0 < n) (hend : dst + n ≤ 0x03F00000) (hsize : s.rdramSize < dst + n)
    (hsrc : ∀ k < n, SourceByte (src + k) s) (hapart : Apart src dst (s.rdramSize - dst)) :
    ∃ t, copyBytes n 0 (BitVec.ofNat 32 src) (BitVec.ofNat 32 dst) s =
        .error (.fault (.dmaBusFault (BitVec.ofNat 32 (dst + (s.rdramSize - dst))) (s.rdramSize - dst) t)) ∧
      Copied src dst (s.rdramSize - dst) s t := by
  obtain ⟨m, hm⟩ : ∃ m, n = s.rdramSize - dst + (m + 1) := ⟨n - (s.rdramSize - dst) - 1, by omega⟩
  obtain ⟨t, hcopied, hrest⟩ := copyBytes_copies (fun k hk => hsrc k (by omega)) (fun k hk => .inl (by omega)) hapart
  have hsrc' : SourceByte (src + (s.rdramSize - dst)) t := (hsrc _ (by omega)).congr hcopied.within.rdramSize
  obtain ⟨b, u, hread, hsame, -⟩ := hsrc'.readByte
  have hu := hcopied.within.trans (hsame.within dst (s.rdramSize - dst))
  have hunclaimed : Unclaimed (BitVec.ofNat 32 (dst + (s.rdramSize - dst))) u :=
    unclaimed_ram (hu.rdramSize ▸ by omega) (by omega)
  refine ⟨u, ?_, fun k hk hlisted => ?_, hu⟩
  · rw [hm, hrest, copyBytes_write_fault hsrc' hread hunclaimed, Nat.zero_add]
  · exact (memByte_congr (by rw [hsame.eq]) (congrArg State.epoch hsame :)).trans (hcopied.moved k hk hlisted)

/-- A copy out of RDRAM into an image that passes the populated end. -/
theorem copy_ignored_stops (hpos : 0 < n) (hend : src + n ≤ 0x03F00000) (hsize : s.rdramSize < src + n)
    (hdst : ∀ k < s.rdramSize - src, isImage (dst + k) = true) :
    copyBytes n 0 (BitVec.ofNat 32 src) (BitVec.ofNat 32 dst) s =
      .error (.fault (.dmaBusFault (BitVec.ofNat 32 (src + (s.rdramSize - src))) (s.rdramSize - src) s)) := by
  obtain ⟨m, hm⟩ : ∃ m, n = s.rdramSize - src + (m + 1) := ⟨n - (s.rdramSize - src) - 1, by omega⟩
  have hunclaimed : Unclaimed (BitVec.ofNat 32 (src + (s.rdramSize - src))) s := unclaimed_ram (by omega) (by omega)
  rw [hm, copyBytes_ignored (fun k hk => .inl (by omega)) hdst, copyBytes_read_fault hunclaimed, Nat.zero_add]

end

end

end Sys2Proof.Machine
end

section
/-! Proofs of the family 61_platform_devices: a store that starts a transfer (spec/61_platform_devices.md R533, R540,
R542, R543). -/

namespace Sys2Proof.Machine

/-! ### Side effects of a word stored -/

/-- The blocks with slots that start transfers (spec/61_platform_devices.md R533). -/
abbrev TransferBlock (blk : Block) : Prop := blk = .pi ∨ blk = .si ∨ blk = .sp

/-- What a slot that starts a transfer does: the copy, the side effects of the bytes it wrote, and the staged registers
become free values (spec/61_platform_devices.md R540, R542). -/
def runTransfer (fuel : Nat) (request : Res Transfer) (blk : Block) (staged : List Nat) (s : State) : Res State := do
  let t ← request
  let s ← copyBytes t.count 0 t.src t.dst s
  let s ← (touchedEffects t.dst.toNat t.count).foldlM (fun s e => fireEffect fuel e s) s
  pure (scrambleStaged blk staged s)

/-- The effect starts the transfer that the registers request, staged in the given slots. -/
def Starts (e : Effect) (request : State → Res Transfer) (blk : Block) (staged : List Nat) : Prop :=
  ∀ fuel s, fireEffect (fuel + 1) e s = runTransfer fuel (request s) blk staged s

theorem starts_spRdLen : Starts .spRdLen (spTransfer true) .sp [0, 1, 2] := fun _ _ => rfl
theorem starts_spWrLen : Starts .spWrLen (spTransfer false) .sp [0, 1, 3] := fun _ _ => rfl
theorem starts_piRdLen : Starts .piRdLen (piTransfer true) .pi [0, 1, 2] := fun _ _ => rfl
theorem starts_piWrLen : Starts .piWrLen (piTransfer false) .pi [0, 1, 3] := fun _ _ => rfl
theorem starts_siRead : Starts .siRead (siTransfer false) .si [0, 1] := fun _ _ => rfl
theorem starts_siWrite : Starts .siWrite (siTransfer true) .si [0, 4] := fun _ _ => rfl

/-- Room for a transfer, and for the side effects of what it writes (log 28). -/
theorem dmaDepth_room : ∃ fuel, dmaDepth = fuel + 1 + 1 := ⟨0xFFFFFFFE, rfl⟩

theorem fireEffects_single {a n : Nat} {e : Effect} (h : touchedEffects a n = [e]) (s : State) :
    fireEffects a n s = fireEffect dmaDepth e s := by
  rw [fireEffects, h, List.foldlM_cons]
  cases fireEffect dmaDepth e s <;> rfl

section
variable {blk : Block} {k : Nat} {p : PAddr} {s t u : State} {e : Effect} {base rt : Reg} {offset : BitVec 16}
  {request : State → Res Transfer} {staged : List Nat} {r : Res Transfer}

/-- A store to a slot with one side effect. -/
theorem exec_sw_effect (hslot : SlotAt blk k p) (he : touchedEffects p.toNat 4 = [e])
    (hp : dataAddress true 4 (effectiveAddress (readGpr s base) offset) s = .ok p) :
    exec (.sw base rt offset) s =
      complete s (fireEffect dmaDepth e (setWriteSide blk k ((readGpr s rt).setWidth 32) s)) := by
  rw [exec_sw_slot hslot hp, fireEffects_single he]

/-- A store to a slot that starts a transfer. -/
theorem exec_sw_transfer (hstarts : Starts e request blk staged) (hslot : SlotAt blk k p)
    (he : touchedEffects p.toNat 4 = [e])
    (hp : dataAddress true 4 (effectiveAddress (readGpr s base) offset) s = .ok p)
    (hrequest : request (setWriteSide blk k ((readGpr s rt).setWidth 32) s) = r) :
    ∃ fuel, exec (.sw base rt offset) s =
      complete s (runTransfer (fuel + 1) r blk staged (setWriteSide blk k ((readGpr s rt).setWidth 32) s)) := by
  obtain ⟨fuel, hfuel⟩ := dmaDepth_room
  exact ⟨fuel, by rw [exec_sw_effect hslot he hp, hfuel, hstarts, hrequest]⟩

/-- The low bits of a register, as an address. -/
theorem setWidth_extractLsb'_low (v : Word32) (n : Nat) :
    (v.extractLsb' 0 n).setWidth 32 = BitVec.ofNat 32 (v.toNat % 2 ^ n) := by
  apply BitVec.eq_of_toNat_eq
  rw [BitVec.toNat_setWidth, BitVec.extractLsb'_toNat, Nat.shiftRight_zero, BitVec.toNat_ofNat]

/-! ### What a transfer leaves -/

/-- t is s but for memory, the register blocks of the transfers and the position in the free values. -/
def SameButTransfer (s t : State) : Prop :=
  { t with mem := s.mem, piRegs := s.piRegs, siRegs := s.siRegs, spRegs := s.spRegs, draws := s.draws } = s

theorem SameButTransfer.trans (hst : SameButTransfer s t) (htu : SameButTransfer t u) : SameButTransfer s u := by
  unfold SameButTransfer at hst htu ⊢
  rw [← hst, ← htu]

theorem SameButTransfer.control (h : SameButTransfer s t) : t.pc = s.pc ∧ t.delay = s.delay :=
  ⟨(congrArg State.pc h :), (congrArg State.delay h :)⟩

theorem SameButTransfer.nextPc (h : SameButTransfer s t) : nextPc t = nextPc s := by
  rw [Machine.nextPc, Machine.nextPc, h.control.1, h.control.2]

theorem SameButTransfer.retire (h : SameButTransfer s t) : { retire t with
    mem := s.mem, piRegs := s.piRegs, siRegs := s.siRegs, spRegs := s.spRegs, draws := s.draws, pc := s.pc
    delay := s.delay } = s := by
  have hretire : { Machine.retire t with
      mem := s.mem, piRegs := s.piRegs, siRegs := s.siRegs, spRegs := s.spRegs, draws := s.draws, pc := s.pc
      delay := s.delay } = { t with
      mem := s.mem, piRegs := s.piRegs, siRegs := s.siRegs, spRegs := s.spRegs, draws := s.draws, pc := s.pc
      delay := s.delay } := by
    unfold Machine.retire
    split <;> rfl
  rw [hretire]
  exact congrArg (fun x : State => { x with pc := s.pc, delay := s.delay }) h

theorem sameButTransfer_setWriteSide (hblk : TransferBlock blk) (k : Nat) (v : Word32) (s : State) :
    SameButTransfer s (setWriteSide blk k v s) := by
  rcases hblk with rfl | rfl | rfl <;> rfl

section
variable {src dst n done : Nat}

theorem Within.sameButTransfer (h : Within dst n s t) : SameButTransfer s t := by
  unfold SameButTransfer
  exact congrArg (fun x : State => { x with piRegs := s.piRegs, siRegs := s.siRegs, spRegs := s.spRegs }) h.rest

theorem Within.writeSide (h : Within dst n s t) (b : Block) (j : Nat) : writeSide b j t = writeSide b j s :=
  (congrArg (Machine.writeSide b j) h.rest :)

/-- The staged registers and the position in the free values alone. -/
structure Scrambled (blk : Block) (staged : List Nat) (s t : State) : Prop where
  mem : t.mem = s.mem
  slots : ∀ b j, ¬ (b = blk ∧ j ∈ staged) → writeSide b j t = writeSide b j s
  rest : SameButTransfer s t

theorem scrambled_scrambleStaged (hblk : TransferBlock blk) (staged : List Nat) (s : State) :
    Scrambled blk staged s (scrambleStaged blk staged s) := by
  induction staged generalizing s with
  | nil => exact ⟨rfl, fun _ _ _ => rfl, rfl⟩
  | cons k ks ih =>
    obtain ⟨hmem, hslots, hrest⟩ := ih (spendDraws 1 (setWriteSide blk k ((drawn s).extractLsb' 0 32) s))
    refine ⟨hmem.trans (setWriteSide_mem _ _ _ s), fun b j hj => ?_, ?_⟩
    · rw [List.mem_cons, and_or_left, not_or] at hj
      exact (hslots b j hj.2).trans ((setWriteSide_onlySlot blk k _ s).2 b j hj.1)
    · have hstep : SameButTransfer s (spendDraws 1 (setWriteSide blk k ((drawn s).extractLsb' 0 32) s)) :=
        sameButTransfer_setWriteSide hblk k _ s
      exact hstep.trans hrest

theorem SameButTransfer.epoch (h : SameButTransfer s t) : t.epoch = s.epoch := (congrArg State.epoch h :)

theorem Scrambled.memByte (h : Scrambled blk staged s t) (a : Nat) : memByte a t = memByte a s :=
  memByte_congr (by rw [h.mem]) h.rest.epoch

/-- A memory byte of the state that a transfer retires in. -/
theorem memByte_transfer (hblk : TransferBlock blk) (a : Nat) (staged : List Nat) (t : State) :
    memByte a (retire (scrambleStaged blk staged t)) = memByte a t :=
  (memByte_retire a _).trans ((scrambled_scrambleStaged hblk staged t).memByte a)

theorem onlyTransfer_of_within (hblk : TransferBlock blk) (hk : k ∈ staged) {w : Word32}
    (h : Within dst n (setWriteSide blk k w s) t) :
    OnlyTransfer blk staged dst n s (retire (scrambleStaged blk staged t)) := by
  have hscrambled := scrambled_scrambleStaged hblk staged t
  have hrest : SameButTransfer s (scrambleStaged blk staged t) :=
    ((sameButTransfer_setWriteSide hblk k w s).trans h.sameButTransfer).trans hscrambled.rest
  exact {
    others := fun a ha => by rw [memByte_transfer hblk, h.memByte ha, memByte_setWriteSide]
    slots := fun b j hj => by
      have hne : ¬ (b = blk ∧ j = k) := fun h => hj ⟨h.1, h.2 ▸ hk⟩
      rw [writeSide_retire, hscrambled.slots b j hj, h.writeSide, (setWriteSide_onlySlot blk k w s).2 b j hne]
    pc := (retire_nextPc _).trans hrest.nextPc
    delay := retire_delay _
    rest := hrest.retire }

theorem partialTransfer_of_within (hblk : TransferBlock blk) {w : Word32}
    (h : Within dst n (setWriteSide blk k w s) t) : PartialTransfer blk k dst n s t where
  others a ha := (h.memByte ha).trans (memByte_setWriteSide a blk k w s)
  slots b j hj := (h.writeSide b j).trans ((setWriteSide_onlySlot blk k w s).2 b j hj)
  rest := (sameButTransfer_setWriteSide hblk k w s).trans h.sameButTransfer

theorem Copied.memByte_stored {w : Word32} (h : Copied src dst n (setWriteSide blk k w s) t) {j : Nat} (hj : j < n)
    (hlisted : Listed (src + j) s) : memByte (dst + j) t = memByte (src + j) s := by
  refine (h.moved j hj ?_).trans (memByte_setWriteSide _ blk k w s)
  rwa [Listed, setWriteSide_mem]

/-! ### A transfer refused, completed or stopped -/

section
variable {i : Instr} {fuel : Nat} {w : Word32}

theorem exec_transfer_refused {q : Refusal}
    (hexec : exec i s = complete s (runTransfer fuel (refuse q) blk staged u)) : exec i s = .refused q := hexec

theorem exec_transfer_stops {x y q : PAddr}
    (hexec : exec i s = complete s (runTransfer fuel (.ok ⟨x, y, n⟩) blk staged u))
    (hcopy : copyBytes n 0 x y u = .error (.fault (.dmaBusFault q done t))) :
    exec i s = .fault (.dmaBusFault q done t) := by
  rw [hexec, runTransfer, res_ok_bind]
  dsimp only
  rw [hcopy]
  rfl

theorem exec_transfer_effects {x y : PAddr}
    (hexec : exec i s = complete s (runTransfer fuel (.ok ⟨x, y, n⟩) blk staged u))
    (hcopy : copyBytes n 0 x y u = .ok t) :
    exec i s = complete s (do
      let v ← (touchedEffects y.toNat n).foldlM (fun s e => fireEffect fuel e s) t
      pure (scrambleStaged blk staged v)) := by
  rw [hexec, runTransfer, res_ok_bind]
  dsimp only
  rw [hcopy, res_ok_bind]

theorem exec_transfer_quiet {x y : PAddr}
    (hexec : exec i s = complete s (runTransfer fuel (.ok ⟨x, y, n⟩) blk staged u))
    (hcopy : copyBytes n 0 x y u = .ok t) (hquiet : touchedEffects y.toNat n = []) :
    exec i s = .next (retire (scrambleStaged blk staged t)) := by
  rw [exec_transfer_effects hexec hcopy, hquiet]
  rfl

/-- Bytes of memory and of the images set off no side effect, but for the command byte of the PIF
(spec/61_platform_devices.md R533). -/
theorem touchedEffects_none (h : dst + n ≤ 0x04002000 ∨ (0x10000000 ≤ dst ∧ dst + n ≤ 0x1FC007C0)) :
    touchedEffects (BitVec.ofNat 32 dst).toNat n = [] := by
  rw [toNat_address (by omega), touchedEffects, List.map_eq_nil_iff, List.filter_eq_nil_iff]
  intro row hrow
  have hplace : ∀ row ∈ effectTable, (0x04040000 ≤ row.2.1 ∧ row.2.1 + row.2.2 ≤ 0x04900000) ∨
      0x1FC007C0 ≤ row.2.1 := by decide
  have := hplace row hrow
  rw [touches, Bool.and_eq_true, decide_eq_true_eq, decide_eq_true_eq]
  omega

/-! ### A transfer between memories -/

section
variable (hblk : TransferBlock blk)
  (hexec : exec i s = complete s (runTransfer fuel (.ok ⟨BitVec.ofNat 32 src, BitVec.ofNat 32 dst, n⟩) blk staged
    (setWriteSide blk k w s)))
include hblk hexec

theorem transfer_completes (hk : k ∈ staged) (hsrc : ∀ j < n, SourceByte (src + j) s)
    (hdst : ∀ j < n, PlainByte (dst + j) s) (hapart : Apart src dst n) (hend : dst + n ≤ 0x04002000) :
    Answers i s (fun t => OnlyTransfer blk staged dst n s t ∧
      ∀ j < n, Listed (src + j) s → memByte (dst + j) t = memByte (src + j) s) := by
  have hsize := setWriteSide_rdramSize blk k w s
  obtain ⟨t, hcopy, hcopied⟩ := copy_complete (fun j hj => (hsrc j hj).congr hsize)
    (fun j hj => (hdst j hj).congr hsize) hapart
  refine ⟨_, exec_transfer_quiet hexec hcopy (touchedEffects_none (.inl hend)),
    onlyTransfer_of_within hblk hk hcopied.within, fun j hj hlisted => ?_⟩
  exact (memByte_transfer hblk _ staged t).trans (hcopied.memByte_stored hj hlisted)

theorem transfer_from_ram_stops (hpos : 0 < n) (hend : src + n ≤ 0x03F00000) (hsize : s.rdramSize < src + n)
    (hdst : ∀ j < s.rdramSize - src, PlainByte (dst + j) s) (hapart : Apart src dst (s.rdramSize - src)) :
    ∃ t, exec i s =
        .fault (.dmaBusFault (BitVec.ofNat 32 (src + (s.rdramSize - src))) (s.rdramSize - src) t) ∧
      PartialTransfer blk k dst (s.rdramSize - src) s t ∧
      ∀ j < s.rdramSize - src, memByte (dst + j) t = memByte (src + j) s := by
  have hstored := setWriteSide_rdramSize blk k w s
  rw [← hstored] at hsize hdst hapart ⊢
  obtain ⟨t, hcopy, hcopied⟩ := copy_from_ram_stops hpos hend hsize
    (fun j hj => (hdst j hj).congr hstored) hapart
  refine ⟨t, exec_transfer_stops hexec hcopy, partialTransfer_of_within hblk hcopied.within, fun j hj => ?_⟩
  exact hcopied.memByte_stored hj (PlainByte.listed (.inl (by omega)))

theorem transfer_to_ram_stops (hpos : 0 < n) (hend : dst + n ≤ 0x03F00000) (hsize : s.rdramSize < dst + n)
    (hsrc : ∀ j < n, SourceByte (src + j) s) (hapart : Apart src dst (s.rdramSize - dst)) :
    ∃ t, exec i s =
        .fault (.dmaBusFault (BitVec.ofNat 32 (dst + (s.rdramSize - dst))) (s.rdramSize - dst) t) ∧
      PartialTransfer blk k dst (s.rdramSize - dst) s t ∧
      ∀ j < s.rdramSize - dst, Listed (src + j) s → memByte (dst + j) t = memByte (src + j) s := by
  have hstored := setWriteSide_rdramSize blk k w s
  rw [← hstored] at hsize hapart ⊢
  obtain ⟨t, hcopy, hcopied⟩ := copy_to_ram_stops hpos hend hsize (fun j hj => (hsrc j hj).congr hstored) hapart
  exact ⟨t, exec_transfer_stops hexec hcopy, partialTransfer_of_within hblk hcopied.within,
    fun j hj hlisted => hcopied.memByte_stored hj hlisted⟩

/-- A transfer from RDRAM into an image stores nothing (spec/20_memory.md R152). -/
theorem transfer_ignored (hk : k ∈ staged) (hend : src + n ≤ 0x03F00000) (hsize : src + n ≤ s.rdramSize)
    (hfirst : 0x10000000 ≤ dst) (hlast : dst + n ≤ 0x1FC007C0) : Answers i s (OnlyTransfer blk staged dst 0 s) := by
  have hstored := setWriteSide_rdramSize blk k w s
  have hcopy := copyBytes_ignored (s := setWriteSide blk k w s) (src := src) (dst := dst) (n := n)
    (fun j hj => .inl (by omega)) (fun j hj => isImage_of (by omega) (by omega)) 0 0
  exact ⟨_, exec_transfer_quiet hexec hcopy (touchedEffects_none (.inr ⟨hfirst, hlast⟩)),
    onlyTransfer_of_within hblk hk (.refl dst 0 _)⟩

theorem transfer_ignored_stops (hpos : 0 < n) (hend : src + n ≤ 0x03F00000) (hsize : s.rdramSize < src + n)
    (hfirst : 0x10000000 ≤ dst) (hlast : dst + n ≤ 0x1FC007C0) :
    ∃ t, exec i s =
        .fault (.dmaBusFault (BitVec.ofNat 32 (src + (s.rdramSize - src))) (s.rdramSize - src) t) ∧
      PartialTransfer blk k dst 0 s t := by
  have hstored := setWriteSide_rdramSize blk k w s
  rw [← hstored] at hsize ⊢
  exact ⟨_, exec_transfer_stops hexec (copy_ignored_stops hpos hend hsize fun j hj => isImage_of (by omega) (by omega)),
    partialTransfer_of_within hblk (.refl dst 0 _)⟩

end

end

end

end

end Sys2Proof.Machine
end

section
/-! Proofs of the family 61_platform_devices: the status, the semaphore and the transfers of the signal processor
(spec/61_platform_devices.md R562 to R566). -/

namespace Sys2Proof.Machine

/-! ### The status (spec/61_platform_devices.md R564, R565) -/

theorem flagCommand_eq (clear set old : Bool) : flagCommand clear set old = if clear = set then old else set := by
  cases clear <;> cases set <;> rfl

theorem spStatusCommand_sig (w : Word32) (f : SpStatus) {k : Nat} (hk : k < 8) :
    (spStatusCommand w f).sig.getLsbD k =
      flagCommand (w.getLsbD (9 + 2 * k)) (w.getLsbD (10 + 2 * k)) (f.sig.getLsbD k) := by
  rw [spStatusCommand, BitVec.getLsbD_ofFnLE, dif_pos hk]

/-- The flags below the signals. -/
theorem toNat_lowFlags : ∀ halt broke sstep intrBreak : Bool,
    (bitAt 0 halt ||| bitAt 1 broke ||| bitAt 5 sstep ||| bitAt 6 intrBreak).toNat =
      halt.toNat + broke.toNat * 2 + sstep.toNat * 2 ^ 5 + intrBreak.toNat * 2 ^ 6 := by
  decide

/-- The flags of SP_STATUS do not overlap, so the word is their sum. -/
theorem toNat_spStatusWord (f : SpStatus) : (spStatusWord f).toNat =
    f.halt.toNat + f.broke.toNat * 2 + f.sstep.toNat * 2 ^ 5 + f.intrBreak.toNat * 2 ^ 6 + f.sig.toNat * 2 ^ 7 := by
  have hlow := toNat_lowFlags f.halt f.broke f.sstep f.intrBreak
  have hhalt := Bool.toNat_lt f.halt
  have hbroke := Bool.toNat_lt f.broke
  have hsstep := Bool.toNat_lt f.sstep
  have hintr := Bool.toNat_lt f.intrBreak
  have hsig : (f.sig.setWidth 32 <<< 7).toNat = 2 ^ 7 * f.sig.toNat := by
    have := f.sig.isLt
    rw [BitVec.toNat_shiftLeft, BitVec.toNat_setWidth, Nat.shiftLeft_eq]
    omega
  rw [spStatusWord, BitVec.toNat_or, hsig, Nat.or_comm, ← Nat.two_pow_add_eq_or_of_lt (by omega), hlow]
  omega

theorem spStatusWord_signExtend (f : SpStatus) : (spStatusWord f).signExtend 64 =
    BitVec.ofNat 64 (f.halt.toNat + f.broke.toNat * 2 + f.sstep.toNat * 2 ^ 5 + f.intrBreak.toNat * 2 ^ 6 +
      f.sig.toNat * 2 ^ 7) := by
  have hsmall : (spStatusWord f).msb = false := by
    have := Bool.toNat_lt f.halt
    have := Bool.toNat_lt f.broke
    have := Bool.toNat_lt f.sstep
    have := Bool.toNat_lt f.intrBreak
    have := f.sig.isLt
    rw [BitVec.msb_eq_false_iff_two_mul_lt, toNat_spStatusWord]
    omega
  rw [BitVec.signExtend_eq_setWidth_of_msb_false hsmall, ← toNat_spStatusWord, BitVec.ofNat_toNat]

theorem bitAt_zero_signExtend (b : Bool) : (bitAt 0 b).signExtend 64 = if b then 1 else 0 := by
  cases b <;> decide

/-- The state after a store to SP_STATUS. -/
def spStatusStored (w : Word32) (s : State) : State :=
  { setWriteSide .sp 4 w s with spStatus := spStatusCommand w s.spStatus }

theorem fireEffect_spStatus (w : Word32) (s : State) :
    fireEffect dmaDepth .spStatus (setWriteSide .sp 4 w s) = .ok (spStatusStored w s) := by
  obtain ⟨fuel, hfuel⟩ := dmaDepth_room
  have hword : writeSide .sp 4 (setWriteSide .sp 4 w s) = w := by
    rw [writeSide_setWriteSide_same]
    exact BitVec.and_allOnes
  rw [hfuel, fireEffect, hword]
  rfl

theorem fireEffect_spSemaphore (s : State) :
    fireEffect dmaDepth .spSemaphore s = .ok { s with semaphore := false } := by
  obtain ⟨fuel, hfuel⟩ := dmaDepth_room
  rw [hfuel, fireEffect]

section
variable {s u : State} {w : Word32}

/-! ### The transfers (spec/61_platform_devices.md R562, R563) -/

/-- The number of bytes that a word stored to SP_RD_LEN or SP_WR_LEN asks for. -/
def spCount (w : Word32) : Nat := w.toNat % 2 ^ 12 + 1

/-- The offset in an SP memory that SP_MEM_ADDR holds. -/
def spOffset (s : State) : Nat := s.spRegs[0].toNat % 2 ^ 12

/-- The address in SP memory that SP_MEM_ADDR holds. -/
def spPlace (s : State) : Nat := (if s.spRegs[0].getLsbD 12 then 0x04001000 else 0x04000000) + spOffset s

/-- The address in RDRAM that SP_DRAM_ADDR holds. -/
def spRam (s : State) : Nat := s.spRegs[1].toNat % 2 ^ 24

/-- A transfer of the signal processor that hardware copies byte for byte. -/
def SpAligned (w : Word32) (s : State) : Prop :=
  w.toNat < 2 ^ 12 ∧ spCount w % 8 = 0 ∧ spOffset s % 8 = 0 ∧ spRam s % 8 = 0 ∧ spOffset s + spCount w ≤ 0x1000

theorem spRegs_writeSide (s : State) : writeSide .sp 0 s = s.spRegs[0] ∧ writeSide .sp 1 s = s.spRegs[1] := by
  constructor <;> simp [writeSide]

/-- u holds the pair that s stages, and the length w in slot k. -/
theorem spMemAddr_eq (h : writeSide .sp 0 u = s.spRegs[0]) : spMemAddr u = BitVec.ofNat 32 (spPlace s) := by
  rw [spMemAddr, h, setWidth_extractLsb'_low, spPlace, spOffset, BitVec.ofNat_add]
  split <;> rfl

theorem spRamAddr_eq (h : writeSide .sp 1 u = s.spRegs[1]) : spRamAddr u = BitVec.ofNat 32 (spRam s) := by
  rw [spRamAddr, h, setWidth_extractLsb'_low, spRam]

theorem spAligned_iff (h0 : writeSide .sp 0 u = s.spRegs[0]) (h1 : writeSide .sp 1 u = s.spRegs[1]) :
    spAligned w u = true ↔ SpAligned w s := by
  have hram : (spRamAddr u).toNat = spRam s := by
    rw [spRamAddr_eq h1, BitVec.toNat_ofNat, spRam]
    omega
  have hhigh : w.extractLsb' 12 20 = 0 ↔ w.toNat < 2 ^ 12 := by
    rw [← BitVec.toNat_inj, BitVec.extractLsb'_toNat, Nat.shiftRight_eq_div_pow]
    have := w.isLt
    simp only [BitVec.ofNat_eq_ofNat, BitVec.toNat_ofNat, Nat.zero_mod]
    omega
  simp only [spAligned, Bool.and_eq_true, beq_iff_eq, decide_eq_true_eq, h0, BitVec.extractLsb'_toNat,
    Nat.shiftRight_zero, hram, hhigh, SpAligned, spCount, spOffset, and_assoc]

theorem spStaged_stored (toSp : Bool) (w : Word32) (s : State) :
    writeSide .sp 0 (setWriteSide .sp (if toSp then 2 else 3) w s) = s.spRegs[0] ∧
      writeSide .sp 1 (setWriteSide .sp (if toSp then 2 else 3) w s) = s.spRegs[1] ∧
      writeSide .sp (if toSp then 2 else 3) (setWriteSide .sp (if toSp then 2 else 3) w s) = w := by
  obtain ⟨hvalue, hothers⟩ := setWriteSide_onlySlot .sp (if toSp then 2 else 3) w s
  have hmask : slotMask .sp (if toSp then 2 else 3) = BitVec.allOnes 32 := by cases toSp <;> rfl
  obtain ⟨h0, h1⟩ := spRegs_writeSide s
  refine ⟨(hothers .sp 0 ?_).trans h0, (hothers .sp 1 ?_).trans h1, ?_⟩
  · cases toSp <;> decide
  · cases toSp <;> decide
  · rw [hvalue, hmask, BitVec.and_allOnes]

theorem spTransfer_aligned (toSp : Bool) (h : SpAligned w s) :
    spTransfer toSp (setWriteSide .sp (if toSp then 2 else 3) w s) =
      .ok (if toSp then ⟨BitVec.ofNat 32 (spRam s), BitVec.ofNat 32 (spPlace s), spCount w⟩
        else ⟨BitVec.ofNat 32 (spPlace s), BitVec.ofNat 32 (spRam s), spCount w⟩) := by
  obtain ⟨h0, h1, hw⟩ := spStaged_stored toSp w s
  have hcount : (w.extractLsb' 0 12).toNat + 1 = spCount w := by
    rw [BitVec.extractLsb'_toNat, Nat.shiftRight_zero, spCount]
  simp only [spTransfer, hw, (spAligned_iff h0 h1).mpr h, if_true, spRamAddr_eq h1, spMemAddr_eq h0, hcount]

theorem spTransfer_unaligned (toSp : Bool) (h : ¬ SpAligned w s) :
    spTransfer toSp (setWriteSide .sp (if toSp then 2 else 3) w s) = refuse .dmaUnaligned := by
  obtain ⟨h0, h1, hw⟩ := spStaged_stored toSp w s
  have haligned : ¬ spAligned w (setWriteSide .sp (if toSp then 2 else 3) w s) = true := mt (spAligned_iff h0 h1).mp h
  simp only [spTransfer, hw, if_neg haligned]

/-- Where the bytes of an aligned transfer lie: in SP memory, and below the end that RDRAM can have. -/
theorem SpAligned.places (h : SpAligned w s) : 0x04000000 ≤ spPlace s ∧ spPlace s + spCount w ≤ 0x04002000 ∧
    spRam s + spCount w ≤ 0x03F00000 ∧ 0 < spCount w := by
  obtain ⟨-, -, -, -, hfits⟩ := h
  have hram : spRam s < 2 ^ 24 := Nat.mod_lt _ (by decide)
  have hcount : spCount w ≤ 2 ^ 12 := Nat.mod_lt _ (by decide)
  have hpos : 0 < spCount w := Nat.succ_pos _
  unfold spPlace
  split <;> omega

theorem SpAligned.place_plain (h : SpAligned w s) {j : Nat} (hj : j < spCount w) : PlainByte (spPlace s + j) s := by
  obtain ⟨hfirst, hlast, -, -⟩ := h.places
  exact .inr (.inl ⟨by omega, by omega⟩)

theorem SpAligned.ram_plain (h : SpAligned w s) {j : Nat} (hj : j < spCount w) (hsize : spRam s + j < s.rdramSize) :
    PlainByte (spRam s + j) s := by
  obtain ⟨-, -, hend, -⟩ := h.places
  exact .inl ⟨hsize, by omega⟩

section
variable {i : Instr} {fuel : Nat} (haligned : SpAligned w s)
include haligned

/-- From RDRAM to SP memory, whole and cut short. -/
theorem spRdLen_transfers (hexec : exec i s = complete s (runTransfer fuel (.ok ⟨BitVec.ofNat 32 (spRam s),
      BitVec.ofNat 32 (spPlace s), spCount w⟩) .sp [0, 1, 2] (setWriteSide .sp 2 w s))) :
    (spRam s + spCount w ≤ s.rdramSize → Answers i s (fun t => OnlyTransfer .sp [0, 1, 2] (spPlace s) (spCount w) s t ∧
      ∀ k < spCount w, memByte (spPlace s + k) t = memByte (spRam s + k) s)) ∧
    (s.rdramSize < spRam s + spCount w → ∃ t, exec i s =
        .fault (.dmaBusFault (BitVec.ofNat 32 (spRam s + (s.rdramSize - spRam s))) (s.rdramSize - spRam s) t) ∧
      PartialTransfer .sp 2 (spPlace s) (s.rdramSize - spRam s) s t ∧
      ∀ k < s.rdramSize - spRam s, memByte (spPlace s + k) t = memByte (spRam s + k) s) := by
  obtain ⟨hfirst, hlast, hend, hpos⟩ := haligned.places
  refine ⟨fun hsize => ?_, fun hsize => ?_⟩
  · obtain ⟨t, ht, honly, hmoved⟩ := transfer_completes (.inr (.inr rfl)) hexec (by decide)
      (fun j hj => .inl (haligned.ram_plain hj (by omega))) (fun j hj => haligned.place_plain hj)
      (.inl (by omega)) hlast
    exact ⟨t, ht, honly, fun j hj => hmoved j hj (haligned.ram_plain hj (by omega)).listed⟩
  · exact transfer_from_ram_stops (.inr (.inr rfl)) hexec hpos hend hsize
      (fun j hj => haligned.place_plain (by omega)) (.inl (by omega))

/-- From SP memory to RDRAM, whole and cut short. -/
theorem spWrLen_transfers (hexec : exec i s = complete s (runTransfer fuel (.ok ⟨BitVec.ofNat 32 (spPlace s),
      BitVec.ofNat 32 (spRam s), spCount w⟩) .sp [0, 1, 3] (setWriteSide .sp 3 w s))) :
    (spRam s + spCount w ≤ s.rdramSize → Answers i s (fun t => OnlyTransfer .sp [0, 1, 3] (spRam s) (spCount w) s t ∧
      ∀ k < spCount w, memByte (spRam s + k) t = memByte (spPlace s + k) s)) ∧
    (s.rdramSize < spRam s + spCount w → ∃ t, exec i s =
        .fault (.dmaBusFault (BitVec.ofNat 32 (spRam s + (s.rdramSize - spRam s))) (s.rdramSize - spRam s) t) ∧
      PartialTransfer .sp 3 (spRam s) (s.rdramSize - spRam s) s t ∧
      ∀ k < s.rdramSize - spRam s, memByte (spRam s + k) t = memByte (spPlace s + k) s) := by
  obtain ⟨hfirst, hlast, hend, hpos⟩ := haligned.places
  refine ⟨fun hsize => ?_, fun hsize => ?_⟩
  · obtain ⟨t, ht, honly, hmoved⟩ := transfer_completes (.inr (.inr rfl)) hexec (by decide)
      (fun j hj => .inl (haligned.place_plain hj)) (fun j hj => haligned.ram_plain hj (by omega))
      (.inr (by omega)) (by omega)
    exact ⟨t, ht, honly, fun j hj => hmoved j hj (haligned.place_plain hj).listed⟩
  · obtain ⟨t, ht, honly, hmoved⟩ := transfer_to_ram_stops (.inr (.inr rfl)) hexec hpos hend hsize
      (fun j hj => .inl (haligned.place_plain hj)) (.inr (by omega))
    exact ⟨t, ht, honly, fun j hj => hmoved j hj (haligned.place_plain (by omega)).listed⟩

end

end

/-- Settles O53: SP_STATUS and SP_SEMAPHORE are slots with a side effect on one field, and a store to a length starts
the copy that the staged pair asks for. -/
theorem signalProcessorRegisters : Obligations.SignalProcessorRegisters := by
  unfold Obligations.SignalProcessorRegisters
  intro s base rt offset va w f after
  have hslot (k : Nat) (hk : k < 8) : SlotAt .sp k (BitVec.ofNat 32 (blockFirst .sp + 4 * k)) := slotAt_ofNat hk
  refine ⟨fun hp => ?setStatus, fun hp => ?status, fun hp => ?take, fun hp => ?release, ?transfers⟩
  case setStatus =>
    have hexec := exec_sw_effect (rt := rt) (e := .spStatus) (hslot 4 (by decide)) (by decide) hp
    rw [fireEffect_spStatus] at hexec
    refine ⟨_, hexec, ?_⟩
    dsimp only
    rw [retire_spStatus, retire_spRegs]
    refine ⟨flagCommand_eq _ _ _, ?broke, flagCommand_eq _ _ _, flagCommand_eq _ _ _, fun k hk => ?sig,
      fun k hk => ?others, onlyControl_retire (spStatusStored w s)⟩
    case broke =>
      show (if w.getLsbD 2 then false else f.broke) = _
      cases w.getLsbD 2 <;> simp
    case sig => exact (spStatusCommand_sig w f hk).trans (flagCommand_eq _ _ _)
    case others =>
      rw [writeSide_retire]
      exact (setWriteSide_onlySlot .sp 4 w s).2 .sp k fun h => hk h.2
  case status =>
    obtain ⟨x, u, hexec, -, hu, hbits⟩ := exec_lw_slot (rt := rt) (hslot 4 (by decide)) hp
    refine ⟨_, hexec, ?_⟩
    rw [(hslot 4 (by decide)).takeSemaphore (by decide), hu rfl, hbits.eq]
    rw [show readSide .sp 4 s = spStatusWord f from rfl, spStatusWord_signExtend]
    exact onlyGpr_writeGpr s rt _
  case take =>
    obtain ⟨x, u, hexec, -, hu, hbits⟩ := exec_lw_slot (rt := rt) (hslot 7 (by decide)) hp
    refine ⟨_, hexec, ?_⟩
    have htake (v : State) : takeSemaphore (BitVec.ofNat 32 (blockFirst .sp + 4 * 7)).toNat 4 v =
        { v with semaphore := true } := rfl
    rw [hu rfl, hbits.eq, htake, show readSide .sp 7 s = bitAt 0 s.semaphore from rfl, bitAt_zero_signExtend]
    exact onlyGpr_writeGpr { s with semaphore := true } rt _
  case release =>
    have hexec := exec_sw_effect (rt := rt) (e := .spSemaphore) (hslot 7 (by decide)) (by decide) hp
    rw [fireEffect_spSemaphore] at hexec
    refine ⟨_, hexec, fun k hk => ?_, ?_⟩
    · rw [writeSide_retire]
      exact (setWriteSide_onlySlot .sp 7 w s).2 .sp k fun h => hk h.2
    · rw [retire_spRegs]
      exact onlyControl_retire { setWriteSide .sp 7 w s with semaphore := false }
  case transfers =>
    refine ⟨fun hp => ?toSp, fun hp => ?fromSp⟩
    case toSp =>
      have hexec {r : Res Transfer} :=
        exec_sw_transfer (rt := rt) (r := r) starts_spRdLen (hslot 2 (by decide)) (by decide) hp
      refine ⟨fun haligned => ?_, fun haligned => ?_, fun haligned => ?_⟩
      · obtain ⟨fuel, hexec⟩ := hexec (spTransfer_aligned true haligned)
        exact (spRdLen_transfers haligned hexec).1
      · obtain ⟨fuel, hexec⟩ := hexec (spTransfer_aligned true haligned)
        exact (spRdLen_transfers haligned hexec).2
      · obtain ⟨fuel, hexec⟩ := hexec (spTransfer_unaligned true haligned)
        exact exec_transfer_refused hexec
    case fromSp =>
      have hexec {r : Res Transfer} :=
        exec_sw_transfer (rt := rt) (r := r) starts_spWrLen (hslot 3 (by decide)) (by decide) hp
      refine ⟨fun haligned => ?_, fun haligned => ?_, fun haligned => ?_⟩
      · obtain ⟨fuel, hexec⟩ := hexec (spTransfer_aligned false haligned)
        exact (spWrLen_transfers haligned hexec).1
      · obtain ⟨fuel, hexec⟩ := hexec (spTransfer_aligned false haligned)
        exact (spWrLen_transfers haligned hexec).2
      · obtain ⟨fuel, hexec⟩ := hexec (spTransfer_unaligned false haligned)
        exact exec_transfer_refused hexec

end Sys2Proof.Machine
end

section
/-! Proofs of the family 61_platform_devices: the transfers of the parallel interface (spec/61_platform_devices.md R551;
spec/20_memory.md R152). -/

namespace Sys2Proof.Machine

/-- The number of bytes that a store of v to PI_RD_LEN or PI_WR_LEN asks for. -/
def piCount (v : Word) : Nat := v.toNat % 2 ^ 24 + 1

/-- The address in RDRAM that PI_DRAM_ADDR holds. -/
def piRam (s : State) : Nat := s.piRegs[0].toNat % 2 ^ 24

/-- The address that PI_CART_ADDR holds. -/
def piCart (s : State) : Nat := s.piRegs[1].toNat

/-- A transfer of the parallel interface that hardware copies byte for byte. -/
def PiAligned (v : Word) (s : State) : Prop := piRam s % 8 = 0 ∧ piCart s % 2 = 0 ∧ piCount v % 2 = 0

/-- The slot of the length, and the state that holds the stored word in it. -/
def piStored (toCart : Bool) (v : Word) (s : State) : State :=
  setWriteSide .pi (if toCart then 2 else 3) (v.setWidth 32) s

section
variable {s : State} {v : Word}

theorem piStaged_stored (toCart : Bool) (v : Word) (s : State) :
    writeSide .pi 0 (piStored toCart v s) = s.piRegs[0] ∧ writeSide .pi 1 (piStored toCart v s) = s.piRegs[1] := by
  obtain ⟨-, hothers⟩ := setWriteSide_onlySlot .pi (if toCart then 2 else 3) (v.setWidth 32) s
  constructor
  · refine (hothers .pi 0 ?_).trans (by simp [writeSide])
    cases toCart <;> decide
  · refine (hothers .pi 1 ?_).trans (by simp [writeSide])
    cases toCart <;> decide

theorem piLength_stored (toCart : Bool) (v : Word) (s : State) :
    ((writeSide .pi (if toCart then 2 else 3) (piStored toCart v s)).extractLsb' 0 24).toNat + 1 = piCount v := by
  have hmask : slotMask .pi (if toCart then 2 else 3) = 0x00FFFFFF := by cases toCart <;> rfl
  have hbits : (v.setWidth 32 &&& (0x00FFFFFF : Word32)).toNat = v.toNat % 2 ^ 32 % 2 ^ 24 := by
    rw [BitVec.toNat_and, BitVec.toNat_setWidth]
    exact Nat.and_two_pow_sub_one_eq_mod _ 24
  rw [piStored, writeSide_setWriteSide_same, hmask, BitVec.extractLsb'_toNat, Nat.shiftRight_zero, hbits, piCount]
  omega

theorem piRam_lt (s : State) : piRam s < 2 ^ 24 := Nat.mod_lt _ (by decide)

theorem piCount_bounds (v : Word) : 0 < piCount v ∧ piCount v ≤ 2 ^ 24 :=
  ⟨Nat.succ_pos _, Nat.mod_lt _ (by decide)⟩

/-- The request that the staged pair and the stored length make. -/
theorem piTransfer_stored (toCart : Bool) (v : Word) (s : State) : piTransfer toCart (piStored toCart v s) =
    if piRam s % 8 == 0 && piCart s % 2 == 0 && piCount v % 2 == 0 then
      .ok (if toCart then ⟨BitVec.ofNat 32 (piRam s), BitVec.ofNat 32 (piCart s), piCount v⟩
        else ⟨BitVec.ofNat 32 (piCart s), BitVec.ofNat 32 (piRam s), piCount v⟩)
    else refuse .dmaUnaligned := by
  obtain ⟨h0, h1⟩ := piStaged_stored toCart v s
  have hcart : BitVec.ofNat 32 (piCart s) = s.piRegs[1] := BitVec.ofNat_toNat _ _
  have hram : (BitVec.ofNat 32 (piRam s)).toNat = piRam s := toNat_address ((piRam_lt s).trans (by decide))
  simp only [piTransfer, h0, h1, piLength_stored, setWidth_extractLsb'_low, hcart]
  rw [← piRam, hram, ← piCart]

theorem piTransfer_aligned (toCart : Bool) (h : PiAligned v s) : piTransfer toCart (piStored toCart v s) =
    .ok (if toCart then ⟨BitVec.ofNat 32 (piRam s), BitVec.ofNat 32 (piCart s), piCount v⟩
      else ⟨BitVec.ofNat 32 (piCart s), BitVec.ofNat 32 (piRam s), piCount v⟩) := by
  obtain ⟨hram, hcart, hcount⟩ := h
  rw [piTransfer_stored, hram, hcart, hcount]
  rfl

theorem piTransfer_unaligned (toCart : Bool) (h : ¬ PiAligned v s) :
    piTransfer toCart (piStored toCart v s) = refuse .dmaUnaligned := by
  rw [piTransfer_stored, if_neg]
  simpa only [Bool.and_eq_true, beq_iff_eq, and_assoc, PiAligned] using h

/-- The bytes of RDRAM that a transfer reaches lie below the end that RDRAM can have. -/
theorem piRam_end (v : Word) (s : State) : piRam s + piCount v ≤ 0x03F00000 := by
  have hram := piRam_lt s
  have hcount := (piCount_bounds v).2
  omega

theorem piRam_plain {j : Nat} (hj : j < piCount v) (hsize : piRam s + j < s.rdramSize) : PlainByte (piRam s + j) s := by
  have hend := piRam_end v s
  exact .inl ⟨hsize, by omega⟩

section
variable {i : Instr} {fuel : Nat}

/-- From an image to RDRAM, whole and cut short. -/
theorem piWrLen_transfers (hexec : exec i s = complete s (runTransfer fuel (.ok ⟨BitVec.ofNat 32 (piCart s),
      BitVec.ofNat 32 (piRam s), piCount v⟩) .pi [0, 1, 3] (piStored false v s)))
    (hfirst : 0x10000000 ≤ piCart s) (hlast : piCart s + piCount v ≤ 0x1FC007C0) :
    (piRam s + piCount v ≤ s.rdramSize → Answers i s (fun t => OnlyTransfer .pi [0, 1, 3] (piRam s) (piCount v) s t ∧
      ∀ k < piCount v, Listed (piCart s + k) s → memByte (piRam s + k) t = memByte (piCart s + k) s)) ∧
    (s.rdramSize < piRam s + piCount v → ∃ t, exec i s =
        .fault (.dmaBusFault (BitVec.ofNat 32 (piRam s + (s.rdramSize - piRam s))) (s.rdramSize - piRam s) t) ∧
      PartialTransfer .pi 3 (piRam s) (s.rdramSize - piRam s) s t ∧ ∀ k < s.rdramSize - piRam s,
        Listed (piCart s + k) s → memByte (piRam s + k) t = memByte (piCart s + k) s) := by
  have hend := piRam_end v s
  have hsource : ∀ j < piCount v, SourceByte (piCart s + j) s := fun j hj => .inr (isImage_of (by omega) (by omega))
  refine ⟨fun hsize => ?_, fun hsize => ?_⟩
  · exact transfer_completes (.inl rfl) hexec (by decide) hsource (fun j hj => piRam_plain hj (by omega))
      (.inr (by omega)) (by omega)
  · exact transfer_to_ram_stops (.inl rfl) hexec (piCount_bounds v).1 hend hsize hsource (.inr (by omega))

/-- From RDRAM to SP memory, whole and cut short. -/
theorem piRdLen_transfers (hexec : exec i s = complete s (runTransfer fuel (.ok ⟨BitVec.ofNat 32 (piRam s),
      BitVec.ofNat 32 (piCart s), piCount v⟩) .pi [0, 1, 2] (piStored true v s)))
    (hfirst : 0x04000000 ≤ piCart s) (hlast : piCart s + piCount v ≤ 0x04002000) :
    (piRam s + piCount v ≤ s.rdramSize → Answers i s (fun t => OnlyTransfer .pi [0, 1, 2] (piCart s) (piCount v) s t ∧
      ∀ k < piCount v, memByte (piCart s + k) t = memByte (piRam s + k) s)) ∧
    (s.rdramSize < piRam s + piCount v → ∃ t, exec i s =
        .fault (.dmaBusFault (BitVec.ofNat 32 (piRam s + (s.rdramSize - piRam s))) (s.rdramSize - piRam s) t) ∧
      PartialTransfer .pi 2 (piCart s) (s.rdramSize - piRam s) s t ∧
      ∀ k < s.rdramSize - piRam s, memByte (piCart s + k) t = memByte (piRam s + k) s) := by
  have hend := piRam_end v s
  have hplace : ∀ j < piCount v, PlainByte (piCart s + j) s := fun j hj => .inr (.inl ⟨by omega, by omega⟩)
  refine ⟨fun hsize => ?_, fun hsize => ?_⟩
  · obtain ⟨t, ht, honly, hmoved⟩ := transfer_completes (.inl rfl) hexec (by decide)
      (fun j hj => .inl (piRam_plain hj (by omega))) hplace (.inl (by omega)) hlast
    exact ⟨t, ht, honly, fun j hj => hmoved j hj (piRam_plain hj (by omega)).listed⟩
  · exact transfer_from_ram_stops (.inl rfl) hexec (piCount_bounds v).1 hend hsize
      (fun j hj => hplace j (by omega)) (.inl (by omega))

/-- From RDRAM to an image, which stores nothing, whole and cut short. -/
theorem piRdLen_ignored (hexec : exec i s = complete s (runTransfer fuel (.ok ⟨BitVec.ofNat 32 (piRam s),
      BitVec.ofNat 32 (piCart s), piCount v⟩) .pi [0, 1, 2] (piStored true v s)))
    (hfirst : 0x10000000 ≤ piCart s) (hlast : piCart s + piCount v ≤ 0x1FC007C0) :
    (piRam s + piCount v ≤ s.rdramSize → Answers i s (OnlyTransfer .pi [0, 1, 2] (piCart s) 0 s)) ∧
    (s.rdramSize < piRam s + piCount v → ∃ t, exec i s =
        .fault (.dmaBusFault (BitVec.ofNat 32 (piRam s + (s.rdramSize - piRam s))) (s.rdramSize - piRam s) t) ∧
      PartialTransfer .pi 2 (piCart s) 0 s t) :=
  ⟨fun hsize => transfer_ignored (.inl rfl) hexec (by decide) (piRam_end v s) hsize hfirst hlast,
    fun hsize => transfer_ignored_stops (.inl rfl) hexec (piCount_bounds v).1 (piRam_end v s) hsize hfirst hlast⟩

end

end

/-- Settles O54: the staged pair and the stored length decide the copy, and where populated RDRAM ends decides where it
stops. -/
theorem cartridgeTransfer : Obligations.CartridgeTransfer := by
  unfold Obligations.CartridgeTransfer
  intro s base rt offset va
  have hslot (k : Nat) (hk : k < 13) : SlotAt .pi k (BitVec.ofNat 32 (blockFirst .pi + 4 * k)) := slotAt_ofNat hk
  refine ⟨fun hp => ?fromCart, fun hp => ?toCart⟩
  case fromCart =>
    have hexec {r : Res Transfer} :=
      exec_sw_transfer (rt := rt) (r := r) starts_piWrLen (hslot 3 (by decide)) (by decide) hp
    refine ⟨fun haligned hfirst hlast => ?_, fun haligned => ?_⟩
    · obtain ⟨fuel, hexec⟩ := hexec (piTransfer_aligned false haligned)
      obtain ⟨hwhole, hcut⟩ := piWrLen_transfers hexec hfirst hlast
      refine ⟨fun hsize => ?_, fun hsize => ?_⟩
      · obtain ⟨t, ht, honly, hmoved⟩ := hwhole hsize
        exact ⟨t, ht, honly, fun k hk hlisted => hmoved k hk fun _ => hlisted⟩
      · obtain ⟨t, ht, honly, hmoved⟩ := hcut hsize
        exact ⟨t, ht, honly, fun k hk hlisted => hmoved k hk fun _ => hlisted⟩
    · obtain ⟨fuel, hexec⟩ := hexec (piTransfer_unaligned false haligned)
      exact exec_transfer_refused hexec
  case toCart =>
    have hexec {r : Res Transfer} :=
      exec_sw_transfer (rt := rt) (r := r) starts_piRdLen (hslot 2 (by decide)) (by decide) hp
    refine ⟨fun haligned hsize => ?_, fun haligned hsize => ?_, fun haligned => ?_⟩
    · obtain ⟨fuel, hexec⟩ := hexec (piTransfer_aligned true haligned)
      exact ⟨fun hfirst hlast => (piRdLen_transfers hexec hfirst hlast).1 hsize,
        fun hfirst hlast => (piRdLen_ignored hexec hfirst hlast).1 hsize⟩
    · obtain ⟨fuel, hexec⟩ := hexec (piTransfer_aligned true haligned)
      exact ⟨fun hfirst hlast => (piRdLen_transfers hexec hfirst hlast).2 hsize,
        fun hfirst hlast => (piRdLen_ignored hexec hfirst hlast).2 hsize⟩
    · obtain ⟨fuel, hexec⟩ := hexec (piTransfer_unaligned true haligned)
      exact exec_transfer_refused hexec

end Sys2Proof.Machine
end

section
/-! Proofs of the family 61_platform_devices: the PIF serving its RAM, and the transfers of the serial interface
(spec/61_platform_devices.md R556, R576, R580 to R584, R590, R595). -/

namespace Sys2Proof.Machine

/-! ### PIF RAM -/

section
variable {s t u : State} {k r : Nat} {c : Byte} {bytes : List Byte}

theorem ram_setMemByte_command (c : Byte) (s : State) : ram 63 (setMemByte 0x1FC007FF c s) = c :=
  (memByte_setMemByte _ _ c s).trans (if_pos rfl)

theorem ram_setMemByte_other (hk : k < 63) (c : Byte) (s : State) : ram k (setMemByte 0x1FC007FF c s) = ram k s := by
  rw [ram, memByte_setMemByte, if_neg (by unfold pifRamAddr; omega), ram]

theorem ram_setMemBytes_same (bytes : List Byte) (s : State) (hk : k < bytes.length) :
    ram (r + k) (setMemBytes (pifRamAddr r) bytes s) = bytes[k] := by
  rw [ram, pifRamAddr, ← Nat.add_assoc]
  exact memByte_setMemBytes_same (pifRamAddr r) bytes s k hk

theorem ram_cleared (hk : k < 64) (s : State) : ram k (setMemBytes (pifRamAddr 0) (List.replicate 64 0) s) = 0 := by
  have hbyte := ram_setMemBytes_same (r := 0) (List.replicate 64 0) s (k := k) (by rwa [List.length_replicate])
  rw [Nat.zero_add, List.getElem_replicate] at hbyte
  exact hbyte

theorem memByte_response_other {a : Nat} (h : a < 0x1FC007C0 + r ∨ 0x1FC007C0 + r + bytes.length ≤ a) (s : State) :
    memByte a (setMemBytes (pifRamAddr r) bytes s) = memByte a s := memByte_setMemBytes_other _ a bytes s h

theorem ram_setMemBytes_other (h : k < r ∨ r + bytes.length ≤ k) (s : State) :
    ram k (setMemBytes (pifRamAddr r) bytes s) = ram k s :=
  memByte_response_other (by unfold pifRamAddr; omega) s

/-! ### The commands of the PIF (spec/61_platform_devices.md R576, R580, R595) -/

theorem pifProcess_refused (h : ram 63 s &&& 0xB6 ≠ 0) : pifProcess s = refuse .pifCommand := if_pos h

theorem pifProcess_clear (hknown : ram 63 s &&& 0xB6 = 0) (hclear : ram 63 s &&& 0x40 ≠ 0) :
    pifProcess s = .ok (setMemBytes (pifRamAddr 0) (List.replicate 64 0) s) :=
  (if_neg (not_not_intro hknown)).trans (if_pos hclear)

theorem pifProcess_idle (hknown : ram 63 s &&& 0xB6 = 0) (hidle : ram 63 s &&& 0x41 = 0) : pifProcess s = .ok s := by
  have hbits (m : Byte) (hm : m &&& 0x41 = m) : ram 63 s &&& m = 0 := by
    rw [← hm, BitVec.and_comm m, ← BitVec.and_assoc, hidle]
    exact BitVec.zero_and
  exact (if_neg (not_not_intro hknown)).trans ((if_neg (not_not_intro (hbits 0x40 (by decide)))).trans
    (if_neg (not_not_intro (hbits 0x01 (by decide)))))

theorem pifProcess_joyBus (h : ram 63 s = 1) : pifProcess s = .ok (joyBusScan 5 0 s) := by
  rw [pifProcess, h]
  rfl

/-! ### One JoyBus packet of channel 0 (spec/61_platform_devices.md R581 to R583) -/

/-- The scan at the end byte. -/
theorem joyBusScan_end {left p : Nat} (h : ram p s = 0xFE) : joyBusScan left p s = s := by
  cases left with
  | zero => rfl
  | succ left => rw [joyBusScan, h, if_pos rfl, ite_self]

/-- A packet of one command byte and rl response bytes, and then the end. -/
theorem joyBusScan_packet {rl : Nat} (htx : ram 0 s = 1) (hrx : ram 1 s = BitVec.ofNat 8 rl) (hrl : rl < 0x3D)
    (hend : ram (3 + rl) (joyBusDispatch 0 (ram 2 s) 3 rl s) = 0xFE) :
    joyBusScan 5 0 s = joyBusDispatch 0 (ram 2 s) 3 rl s := by
  have hreceived : (BitVec.ofNat 8 rl &&& 0x3F).toNat = rl := by
    rw [BitVec.toNat_and, BitVec.toNat_ofNat]
    refine (Nat.and_two_pow_sub_one_eq_mod _ 6).trans ?_
    omega
  have hgoes : ram 1 s ≠ 0xFE := fun h => by
    have : rl % 2 ^ 8 = 0xFE := congrArg BitVec.toNat (hrx.symm.trans h)
    omega
  have hfits : ¬ 0x3F < 3 + rl := by omega
  rw [joyBusScan, if_neg (by decide), htx, if_neg (by decide), if_neg (by decide), if_neg (by decide),
    if_neg (by decide), if_neg hgoes, hrx, hreceived]
  exact (if_neg hfits).trans (joyBusScan_end hend)

theorem joyBusDispatch_identify (hcmd : ram 2 s = 0xFF) :
    joyBusDispatch 0 (ram 2 s) 3 3 s = setMemBytes (pifRamAddr 3) [0x05, 0x00, 0x02] s := by
  rw [hcmd]
  rfl

/-- The state after controller 0 was read: its four bytes stand in PIF RAM and its latch is empty. -/
def controllerRead (s : State) : State :=
  { setMemBytes (pifRamAddr 3) (latchBytes s.latch[0]) s with latch := s.latch.setIfInBounds 0 Latch.empty }

theorem memByte_controllerRead (a : Nat) (s : State) :
    memByte a (controllerRead s) = memByte a (setMemBytes (pifRamAddr 3) (latchBytes s.latch[0]) s) := rfl

theorem length_latchBytes (l : Latch) : (latchBytes l).length = 4 := rfl

theorem joyBusDispatch_state (hcmd : ram 2 s = 0x01) : joyBusDispatch 0 (ram 2 s) 3 4 s = controllerRead s := by
  rw [hcmd, joyBusDispatch, if_neg (by decide), if_pos rfl, Vector.getElem?_eq_getElem (by decide)]
  rfl

/-- The identification packet of controller 0, with the end byte behind it. -/
structure IdentifyPacket (s : State) : Prop where
  command : ram 63 s = 1
  transmit : ram 0 s = 1
  receive : ram 1 s = 3
  request : ram 2 s = 0xFF
  stop : ram 6 s = 0xFE

/-- The state packet of controller 0, with the end byte behind it. -/
structure StatePacket (s : State) : Prop where
  command : ram 63 s = 1
  transmit : ram 0 s = 1
  receive : ram 1 s = 4
  request : ram 2 s = 0x01
  stop : ram 7 s = 0xFE

theorem IdentifyPacket.pifProcess (h : IdentifyPacket s) :
    pifProcess s = .ok (setMemBytes (pifRamAddr 3) [0x05, 0x00, 0x02] s) := by
  have hdispatch := joyBusDispatch_identify h.request
  have hstop : ram (3 + 3) (joyBusDispatch 0 (ram 2 s) 3 3 s) = 0xFE := by
    rw [hdispatch]
    exact (ram_setMemBytes_other (.inr (by decide)) s).trans h.stop
  rw [pifProcess_joyBus h.command, joyBusScan_packet h.transmit h.receive (by decide) hstop, hdispatch]

theorem StatePacket.pifProcess (h : StatePacket s) : pifProcess s = .ok (controllerRead s) := by
  have hdispatch := joyBusDispatch_state h.request
  have hstop : ram (3 + 4) (joyBusDispatch 0 (ram 2 s) 3 4 s) = 0xFE := by
    rw [hdispatch, ram, memByte_controllerRead]
    exact (ram_setMemBytes_other (.inr (le_of_eq (by rw [length_latchBytes]))) s).trans h.stop
  rw [pifProcess_joyBus h.command, joyBusScan_packet h.transmit h.receive (by decide) hstop, hdispatch]

/-! ### The command byte stored -/

section
variable {base rt : Reg} {offset : BitVec 16}

/-- A store of the command byte: the PIF serves its RAM (spec/61_platform_devices.md R576). -/
theorem exec_sb_command (hp : dataAddress true 1 (effectiveAddress (readGpr s base) offset) s = .ok 0x1FC007FF) :
    exec (.sb base rt offset) s =
      complete s (pifProcess (setMemByte 0x1FC007FF ((readGpr s rt).setWidth 8) s)) := by
  have hplain : PlainByte 0x1FC007FF s := .inr (.inr ⟨by decide, by decide⟩)
  have hbytes : bytesOf 1 (readGpr s rt) = [(readGpr s rt).setWidth 8] :=
    congrArg (fun b => [b]) (BitVec.setWidth_eq_extractLsb' (by decide)).symm
  have heffect := fireEffects_single (a := 0x1FC007FF) (n := 1) (e := .pifCommand) (by decide)
    (setMemByte 0x1FC007FF ((readGpr s rt).setWidth 8) s)
  obtain ⟨fuel, hfuel⟩ := dmaDepth_room
  rw [hfuel, fireEffect] at heffect
  have hstore : storeAligned 1 base rt offset s =
      pifProcess (setMemByte 0x1FC007FF ((readGpr s rt).setWidth 8) s) := by
    rw [storeAligned, storeValue, hp, res_ok_bind, BitVec.sub_zero, busWrite, hbytes, storeBytes_single]
    exact (congrArg (· >>= fireEffects 0x1FC007FF 1) (hplain.writeByte _)).trans heffect
  exact congrArg (complete s) hstore

end

/-- Clearing PIF RAM overwrites the command byte too (spec/61_platform_devices.md R595). -/
theorem onlyMemory_clear (c : Byte) (s : State) : OnlyMemory 0x1FC007C0 (List.replicate 64 0) s
    (retire (setMemBytes (pifRamAddr 0) (List.replicate 64 0) (setMemByte 0x1FC007FF c s))) := by
  obtain ⟨hstored, hothers, hpc, hdelay, hrest⟩ :=
    onlyMemory_setMemBytes 0x1FC007C0 (List.replicate 64 0) (setMemByte 0x1FC007FF c s)
  refine ⟨hstored, fun a ha => (hothers a ha).trans ?_, hpc, hdelay,
    congrArg (fun t : State => { t with mem := s.mem }) hrest⟩
  rw [List.length_replicate] at ha
  rw [memByte_setMemByte, if_neg (by omega)]

/-- Memory after the PIF answered a command byte stored over PIF RAM: the response, the command byte, and the rest. -/
theorem memory_answered {response : List Byte} (hlen : response.length < 60)
    (hu : ∀ a, memByte a u = memByte a (setMemBytes (pifRamAddr 3) response (setMemByte 0x1FC007FF c s))) :
    (∀ k (hk : k < response.length), ram (3 + k) (retire u) = response[k]) ∧ ram 63 (retire u) = c ∧
      ∀ a, a < 0x1FC007C3 ∨ 0x1FC007C3 + response.length ≤ a → a ≠ 0x1FC007FF →
        memByte a (retire u) = memByte a s := by
  have hmem (a : Nat) := (memByte_retire a u).trans (hu a)
  refine ⟨fun k hk => (hmem _).trans (ram_setMemBytes_same response _ hk), (hmem _).trans ?_, fun a ha hne => ?_⟩
  · exact (ram_setMemBytes_other (.inr (by omega)) _).trans (ram_setMemByte_command c s)
  · rw [hmem, memByte_response_other ha, memByte_setMemByte, if_neg hne]

theorem setMemBytes_latch (a : Nat) (bytes : List Byte) (s : State) : (setMemBytes a bytes s).latch = s.latch := by
  rw [setMemBytes_eq]

/-! ### The transfers of the serial interface (spec/61_platform_devices.md R556) -/

/-- The address in RDRAM that SI_DRAM_ADDR holds. -/
def siRam (s : State) : Nat := s.siRegs[0].toNat % 2 ^ 24

theorem siRam_lt (s : State) : siRam s < 2 ^ 24 := Nat.mod_lt _ (by decide)

/-- The request that the staged address makes. -/
theorem siTransfer_stored (toPif : Bool) {j : Nat} (hj : j ≠ 0) (w : Word32) (s : State) :
    siTransfer toPif (setWriteSide .si j w s) =
      if siRam s % 8 == 0 then
        .ok (if toPif then ⟨BitVec.ofNat 32 (siRam s), BitVec.ofNat 32 0x1FC007C0, 64⟩
          else ⟨BitVec.ofNat 32 0x1FC007C0, BitVec.ofNat 32 (siRam s), 64⟩)
      else refuse .dmaUnaligned := by
  have h0 : writeSide .si 0 (setWriteSide .si j w s) = s.siRegs[0] :=
    ((setWriteSide_onlySlot .si j w s).2 .si 0 fun h => hj h.2.symm).trans (by simp [writeSide])
  have hram : (BitVec.ofNat 32 (siRam s)).toNat = siRam s := toNat_address ((siRam_lt s).trans (by decide))
  simp only [siTransfer, h0, setWidth_extractLsb'_low]
  rw [← siRam, hram]
  rfl

theorem siTransfer_aligned (toPif : Bool) {j : Nat} (hj : j ≠ 0) (w : Word32) (h : siRam s % 8 = 0) :
    siTransfer toPif (setWriteSide .si j w s) =
      .ok (if toPif then ⟨BitVec.ofNat 32 (siRam s), BitVec.ofNat 32 0x1FC007C0, 64⟩
        else ⟨BitVec.ofNat 32 0x1FC007C0, BitVec.ofNat 32 (siRam s), 64⟩) := by
  rw [siTransfer_stored toPif hj, h]
  rfl

theorem siTransfer_unaligned (toPif : Bool) {j : Nat} (hj : j ≠ 0) (w : Word32) (h : siRam s % 8 ≠ 0) :
    siTransfer toPif (setWriteSide .si j w s) = refuse .dmaUnaligned := by
  rw [siTransfer_stored toPif hj, if_neg]
  exact mt beq_iff_eq.mp h

theorem pifRam_plain {j : Nat} (hj : j < 64) : PlainByte (0x1FC007C0 + j) s := .inr (.inr ⟨by omega, by omega⟩)

theorem siRam_plain {j : Nat} (hj : j < 64) (hsize : siRam s + j < s.rdramSize) : PlainByte (siRam s + j) s := by
  have := siRam_lt s
  exact .inl ⟨hsize, by omega⟩

section
variable {i : Instr} {fuel : Nat} {w : Word32}

/-- From RDRAM to PIF RAM: the PIF serves what was copied. -/
theorem exec_siWrite_whole (hexec : exec i s = complete s (runTransfer (fuel + 1) (.ok ⟨BitVec.ofNat 32 (siRam s),
      BitVec.ofNat 32 0x1FC007C0, 64⟩) .si [0, 4] (setWriteSide .si 4 w s))) (hsize : siRam s + 64 ≤ s.rdramSize) :
    ∃ t, Within 0x1FC007C0 64 (setWriteSide .si 4 w s) t ∧ (∀ k < 64, ram k t = memByte (siRam s + k) s) ∧
      exec i s = complete s (do
        let v ← pifProcess t
        pure (scrambleStaged .si [0, 4] v)) := by
  have hlow := siRam_lt s
  have hstored := setWriteSide_rdramSize .si 4 w s
  obtain ⟨t, hcopy, hcopied⟩ := copy_complete
    (s := setWriteSide .si 4 w s) (src := siRam s) (dst := 0x1FC007C0) (n := 64)
    (fun j hj => .inl ((siRam_plain hj (by omega)).congr hstored)) (fun j hj => pifRam_plain hj) (.inl (by omega))
  refine ⟨t, hcopied.within, fun k hk => hcopied.memByte_stored hk (siRam_plain hk (by omega)).listed, ?_⟩
  have heffects : touchedEffects (BitVec.ofNat 32 0x1FC007C0).toNat 64 = [.pifCommand] := by decide
  have hserve : fireEffect (fuel + 1) .pifCommand t = pifProcess t := rfl
  rw [exec_transfer_effects hexec hcopy, heffects, List.foldlM_cons, hserve]
  cases pifProcess t <;> rfl

/-- What the transfer to PIF RAM leaves when the PIF served it within PIF RAM. -/
theorem siWrite_answers {v : State} (hcopied : Within 0x1FC007C0 64 (setWriteSide .si 4 w s) t)
    (hexec : exec i s = complete s (do
      let v ← pifProcess t
      pure (scrambleStaged .si [0, 4] v)))
    (hserved : pifProcess t = .ok v) (hwithin : Within 0x1FC007C0 64 t v) : Answers i s (fun r =>
      OnlyTransfer .si [0, 4] 0x1FC007C0 64 s r ∧ ∀ k, ram k r = ram k v) := by
  rw [hserved] at hexec
  exact ⟨_, hexec, onlyTransfer_of_within (.inr (.inl rfl)) (by decide) (hcopied.trans hwithin),
    fun k => memByte_transfer (.inr (.inl rfl)) _ [0, 4] v⟩

/-- From PIF RAM to RDRAM, whole and cut short. -/
theorem siRead_transfers (hexec : exec i s = complete s (runTransfer fuel (.ok ⟨BitVec.ofNat 32 0x1FC007C0,
      BitVec.ofNat 32 (siRam s), 64⟩) .si [0, 1] (setWriteSide .si 1 w s))) :
    (siRam s + 64 ≤ s.rdramSize → Answers i s (fun t => OnlyTransfer .si [0, 1] (siRam s) 64 s t ∧
      ∀ k < 64, memByte (siRam s + k) t = ram k s)) ∧
    (s.rdramSize < siRam s + 64 → ∃ t, exec i s =
        .fault (.dmaBusFault (BitVec.ofNat 32 (siRam s + (s.rdramSize - siRam s))) (s.rdramSize - siRam s) t) ∧
      PartialTransfer .si 1 (siRam s) (s.rdramSize - siRam s) s t ∧
      ∀ k < s.rdramSize - siRam s, memByte (siRam s + k) t = ram k s) := by
  have hlow := siRam_lt s
  refine ⟨fun hsize => ?_, fun hsize => ?_⟩
  · obtain ⟨t, ht, honly, hmoved⟩ := transfer_completes (.inr (.inl rfl)) hexec (by decide)
      (fun j hj => .inl (pifRam_plain hj)) (fun j hj => siRam_plain hj (by omega)) (.inr (by omega)) (by omega)
    exact ⟨t, ht, honly, fun k hk => hmoved k hk (pifRam_plain hk (s := s)).listed⟩
  · obtain ⟨t, ht, honly, hmoved⟩ := transfer_to_ram_stops (.inr (.inl rfl)) hexec (by decide) (by omega) hsize
      (fun j hj => .inl (pifRam_plain hj)) (.inr (by omega))
    exact ⟨t, ht, honly, fun k hk => hmoved k hk (pifRam_plain (by omega) (s := s)).listed⟩

end

end

/-- Settles O55: the PIF answers the command byte by its bits, and the packet of channel 0 is one step of its scan; a
store that starts a transfer of the serial interface copies 64 bytes, and the PIF serves what was copied to it. -/
theorem pifCommands : Obligations.PifCommands := by
  unfold Obligations.PifCommands
  intro s base rt offset va c ramByte same
  have hslot (k : Nat) (hk : k < 7) : SlotAt .si k (BitVec.ofNat 32 (blockFirst .si + 4 * k)) := slotAt_ofNat hk
  refine ⟨fun hp => ?command, fun hp => ?toPif, fun hp => ?fromPif⟩
  case command =>
    have hexec := exec_sb_command (rt := rt) hp
    have hcommand : ram 63 (setMemByte 0x1FC007FF c s) = c := ram_setMemByte_command c s
    have hkept {k : Nat} (hk : k < 63) : ram k (setMemByte 0x1FC007FF c s) = ramByte k s := ram_setMemByte_other hk c s
    refine ⟨fun hc => ?_, fun hc hclear => ?_, fun hc hidle => ?_, fun hc h0 h1 h2 h6 => ?identify,
      fun hc h0 h1 h2 h7 => ?state⟩
    · rw [pifProcess_refused (hcommand.symm ▸ hc)] at hexec
      exact hexec
    · rw [pifProcess_clear (hcommand.symm ▸ hc) (hcommand.symm ▸ hclear)] at hexec
      exact ⟨_, hexec, onlyMemory_clear c s⟩
    · rw [pifProcess_idle (hcommand.symm ▸ hc) (hcommand.symm ▸ hidle)] at hexec
      exact ⟨_, hexec, onlyMemory_setMemBytes 0x1FC007FF [c] s⟩
    case identify =>
      have hpacket : IdentifyPacket (setMemByte 0x1FC007FF c s) := ⟨hcommand.trans hc, (hkept (by decide)).trans h0,
        (hkept (by decide)).trans h1, (hkept (by decide)).trans h2, (hkept (by decide)).trans h6⟩
      rw [hpacket.pifProcess] at hexec
      obtain ⟨hresponse, hbyte, hothers⟩ := memory_answered (c := c) (s := s) (response := [0x05, 0x00, 0x02])
        (by decide) fun _ => rfl
      refine ⟨_, hexec, hresponse 0 (by decide), hresponse 1 (by decide), hresponse 2 (by decide), hbyte.trans hc,
        fun a h3 h4 h5 h63 => hothers a ?_ h63, ?_⟩
      · simp only [List.length_cons, List.length_nil]
        omega
      · rw [retire_latch, setMemBytes_latch]
        rfl
    case state =>
      have hpacket : StatePacket (setMemByte 0x1FC007FF c s) := ⟨hcommand.trans hc, (hkept (by decide)).trans h0,
        (hkept (by decide)).trans h1, (hkept (by decide)).trans h2, (hkept (by decide)).trans h7⟩
      rw [hpacket.pifProcess] at hexec
      obtain ⟨hresponse, hbyte, hothers⟩ := memory_answered (c := c) (s := s) (by rw [length_latchBytes]; decide)
        fun a => memByte_controllerRead a (setMemByte 0x1FC007FF c s)
      have hlatch : (retire (controllerRead (setMemByte 0x1FC007FF c s))).latch = s.latch.setIfInBounds 0 Latch.empty :=
        retire_latch _
      refine ⟨_, hexec, hresponse 0 (show 0 < 4 by decide), hresponse 1 (show 1 < 4 by decide),
        hresponse 2 (show 2 < 4 by decide), hresponse 3 (show 3 < 4 by decide), hbyte.trans hc,
        fun a h3 h4 h5 h6 h63 => hothers a ?_ h63, ?_, fun n hn => ?_⟩
      · rw [length_latchBytes]
        omega
      · rw [hlatch, Vector.getElem_setIfInBounds_self]
        rfl
      · rw [hlatch]
        exact Vector.getElem_setIfInBounds_ne _ fun h => hn (Fin.ext h.symm)
  case toPif =>
    have hexec {r : Res Transfer} :=
      exec_sw_transfer (rt := rt) (r := r) starts_siWrite (hslot 4 (by decide)) (by decide) hp
    refine ⟨fun hram => ?refused, fun hram hsize => ?whole, fun hram hsize => ?cut⟩
    case refused =>
      obtain ⟨fuel, hexec⟩ := hexec (siTransfer_unaligned true (by decide) _ hram)
      exact exec_transfer_refused hexec
    case whole =>
      obtain ⟨fuel, hexec⟩ := hexec (siTransfer_aligned true (by decide) _ hram)
      obtain ⟨t, hcopied, hmoved, hexec⟩ := exec_siWrite_whole hexec hsize
      refine ⟨fun hd => ?_, fun hd hclear => ?_, fun hd hidle => ?_, fun hd h0 h1 h2 h6 => ?_⟩
      · rw [pifProcess_refused ((hmoved 63 (by decide)).symm ▸ hd)] at hexec
        exact hexec
      · obtain ⟨r, hr, honly, hbytes⟩ := siWrite_answers hcopied hexec (pifProcess_clear
          ((hmoved 63 (by decide)).symm ▸ hd) ((hmoved 63 (by decide)).symm ▸ hclear))
          (within_setMemBytes _ (by decide) (by decide) t)
        exact ⟨r, hr, honly, fun k hk => (hbytes k).trans (ram_cleared hk t)⟩
      · obtain ⟨r, hr, honly, hbytes⟩ := siWrite_answers hcopied hexec (pifProcess_idle
          ((hmoved 63 (by decide)).symm ▸ hd) ((hmoved 63 (by decide)).symm ▸ hidle)) (.refl _ _ t)
        exact ⟨r, hr, honly, fun k hk => (hbytes k).trans (hmoved k hk)⟩
      · have hpacket : IdentifyPacket t := ⟨(hmoved 63 (by decide)).trans hd, (hmoved 0 (by decide)).trans h0,
          (hmoved 1 (by decide)).trans h1, (hmoved 2 (by decide)).trans h2, (hmoved 6 (by decide)).trans h6⟩
        obtain ⟨r, hr, honly, hbytes⟩ := siWrite_answers hcopied hexec hpacket.pifProcess
          (within_setMemBytes _ (by decide) (by decide) t)
        have hresponse {k : Nat} (hk : k < 3) := (hbytes (3 + k)).trans
          (ram_setMemBytes_same (r := 3) [0x05, 0x00, 0x02] t hk)
        refine ⟨r, hr, honly, hresponse (k := 0) (by decide), hresponse (k := 1) (by decide),
          hresponse (k := 2) (by decide), fun k hk hne => (hbytes k).trans ?_⟩
        simp only [List.mem_cons, List.not_mem_nil, or_false, not_or] at hne
        refine (ram_setMemBytes_other ?_ t).trans (hmoved k hk)
        simp only [List.length_cons, List.length_nil]
        omega
    case cut =>
      obtain ⟨fuel, hexec⟩ := hexec (siTransfer_aligned true (by decide) _ hram)
      have hlow := siRam_lt s
      exact transfer_from_ram_stops (.inr (.inl rfl)) hexec (by decide) (by omega) hsize
        (fun j hj => pifRam_plain (by omega)) (.inl (by omega))
  case fromPif =>
    have hexec {r : Res Transfer} :=
      exec_sw_transfer (rt := rt) (r := r) starts_siRead (hslot 1 (by decide)) (by decide) hp
    refine ⟨fun hram => ?_, fun hram => ?_, fun hram => ?_⟩
    · obtain ⟨fuel, hexec⟩ := hexec (siTransfer_unaligned false (by decide) _ hram)
      exact exec_transfer_refused hexec
    · obtain ⟨fuel, hexec⟩ := hexec (siTransfer_aligned false (by decide) _ hram)
      exact (siRead_transfers hexec).1
    · obtain ⟨fuel, hexec⟩ := hexec (siTransfer_aligned false (by decide) _ hram)
      exact (siRead_transfers hexec).2

end Sys2Proof.Machine
end
